-- ==== Sys2Proof/Word.lean ====
section
/-!
DEFINITION. The two widths of the engine: 64-bit words and 8-bit bytes (00_scope.md rules R6, R7, R10), and the
64-byte block (rule R6). Word arithmetic is that of `BitVec 64`: modulo 2^64, unsigned, without flags (rules R8, R9).
-/
namespace Sys2Proof

/-- A 64-bit unsigned word (rules R6, R7). -/
abbrev Word := BitVec 64

/-- An unsigned 8-bit value (rule R10). -/
abbrev Byte := BitVec 8

/-- A block of exactly 64 bytes (rules R6, R22). -/
abbrev Block := Vector Byte 64

end Sys2Proof
end

