-- ==== Sys2Proof/Machine/Bits.lean ====
section
/-!
DEFINITION. Byte extraction, the little-endian conversions `LE64` and `LE64dec` (00_scope.md rules R7, R10) and the
byte-addressed 64-byte block with its word view (20_memory.md rules R52, R54). Nothing here depends on the state.
-/
namespace Sys2Proof.Machine

/-- `byte_k(v) = v[8k+7 : 8k]` (rule R7). -/
def byteOf (k : Nat) (v : Word) : Byte := v.extractLsb' (8 * k) 8

/-- `LE64(v)`: the eight bytes of `v`, least significant first (rule R10). -/
def le64 (v : Word) : List Byte :=
  [byteOf 0 v, byteOf 1 v, byteOf 2 v, byteOf 3 v, byteOf 4 v, byteOf 5 v, byteOf 6 v, byteOf 7 v]

/-- The natural number a byte string spells, least significant byte first: `sum over k of s[k] * 2^(8k)` (rule R10). -/
def leNat : List Byte → Nat
  | [] => 0
  | b :: s => b.toNat + 256 * leNat s

/-- `LE64dec(s)` for an eight-byte string (rule R10). -/
def le64dec (s : List Byte) : Word := BitVec.ofNat 64 (leNat s)

/-- The block whose bytes are the first 64 of the given string. It is used on strings of at least 64 bytes only; a
byte beyond a shorter string would be 0. -/
def blockOfList (l : List Byte) : Block := Vector.ofFn fun i => l.getD i.val 0

/-- Consecutive byte writes `b[at + k] <- v[k]` in order (rule R52). Every caller stays below index 64; a byte that
would fall outside the block is dropped. -/
def writeBytes (b : Block) (at_ : Nat) : List Byte → Block
  | [] => b
  | v :: vs => writeBytes (b.setIfInBounds at_ v) (at_ + 1) vs

/-- Word `j` of a block: `LE64dec(b[8j .. 8j+7])` (rules R52, R54, R101). -/
def wordAt (b : Block) (j : Fin 8) : Word :=
  le64dec [b[8 * j.val], b[8 * j.val + 1], b[8 * j.val + 2], b[8 * j.val + 3],
    b[8 * j.val + 4], b[8 * j.val + 5], b[8 * j.val + 6], b[8 * j.val + 7]]

/-- The eight little-endian words of a block, what `LOADX` loads (rule R101). -/
def blockWords (b : Block) : Vector Word 8 := Vector.ofFn fun j => wordAt b j

/-- The digest string of a hash state: `LE64(a) ++ LE64(b) ++ LE64(c)`, 24 bytes (rules R63, R155). -/
def digestBytes (h : Vector Word 3) : List Byte := le64 h[0] ++ le64 h[1] ++ le64 h[2]

end Sys2Proof.Machine
end

