-- ==== Sys2Proof/Config.lean ====
section
/-!
DEFINITION. What is fixed for the engine (the parameters of 00_scope.md rule R6) and the FREE VALUES: what the spec
calls unspecified ("any value", 93_implementation_defined.md U6, U7, U8). A free value is an opaque constant without
a body, applied to a plain counter of the state, so that no proof can rest on what it is.
-/
namespace Sys2Proof.Config

/-- `IV_a`, the reset value of `H[0]` (rule R6). -/
def ivA : Word := 0x0123456789ABCDEF

/-- `IV_b`, the reset value of `H[1]` (rule R6). -/
def ivB : Word := 0xFEDCBA9876543210

/-- `IV_c`, the reset value of `H[2]` (rule R6). -/
def ivC : Word := 0xF096A5B4C3B2E187

/-- The hash state after reset, `(IV_a, IV_b, IV_c)` (rules R6, R21, R32). -/
def iv : Vector Word 3 := #v[ivA, ivB, ivC]

/-- `K1` of the key schedule (rules R6, R120). -/
def k1 : Word := 0xA5A5A5A5A5A5A5A5

/-- `K2` of the key schedule (rules R6, R120). -/
def k2 : Word := 0x0123456789ABCDEF

/-- The padding terminator, the byte `0x01` (rules R6, R151; 90_conflicts.md C3). -/
def terminator : Byte := 0x01

/-- `MAXLEN`, the largest total message length with a meaning (rule R6; 92_eei_decisions.md D6). -/
def maxLen : Nat := 2 ^ 61 - 1

/-- FREE VALUE: byte `index` of a buffer whose contents the spec leaves unspecified, at the given draw
(log entries 4 and 6). -/
opaque freeByte (draw index : Nat) : Byte

/-- FREE VALUE: word `index` of the working registers `X` (0 to 7) and `S` (8 to 10) outside a `COMPRESS`, at the
given draw (log entries 4 and 7). -/
opaque freeWord (draw index : Nat) : Word

/-- FREE VALUE: `fill` after `FINALIZE`, at the given draw (log entry 6). -/
opaque freeFill (draw : Nat) : BitVec 6

/-- FREE VALUE: `len` after `FINALIZE`, at the given draw (log entry 6). -/
opaque freeLen (draw : Nat) : Word

/-- FREE VALUE: the sequencer after a micro-operation that was performed while it was idle, at the given draw
(log entry 8). -/
opaque freeSeq (draw : Nat) : Option (Fin 29)

end Sys2Proof.Config
end

