-- ==== Sys2Proof/Machine/State.lean ====
section
/-!
DEFINITION. The state of one engine instance (10_state.md rule R20), the inputs and outputs of its steps held as plain
data, the outcomes a step can stop with (60_exceptions.md rules R170, R171), and the state right after reset (rule
R32).
-/
namespace Sys2Proof.Machine

/-- The block source, the implicit operand of `LOADX` (rule R101): the pending block buffer, or a 64-byte chunk of
the `UPDATE` payload. -/
inductive BlockSource where
  /-- `buf[0..63]`. -/
  | buffer
  /-- A chunk `d[p .. p+63]` of the payload (rule R54). -/
  | payload (chunk : Block)
  deriving DecidableEq, Repr

/-- Faults. The engine raises none: no trap, no exception, nothing that can get stuck (rules R170, R174; part 1 of
93_implementation_defined.md), so the type is closed with no constructor (log entry 20; safe). -/
inductive Fault where
  deriving DecidableEq, Repr

/-- The closed list of refusals (rule R171). None is an event of the hardware: each marks a place to which the spec
gives no meaning, so all of them are safe (log entry 15). -/
inductive Refusal where
  /-- An instruction without a meaning in this model; raised by no arm. Safe. -/
  | notModelled (mnemonic : String)
  /-- Raised by `UPDATE` and `FINALIZE` when `done = 1` (rules R134, R156, R163). Safe. -/
  | afterFinalize
  /-- Raised by `UPDATE` when `len + n > MAXLEN` (rule R134). Safe. -/
  | lengthOverflow
  /-- Raised by the command decoder on a first byte `0x00` or `0x04` to `0xFF` (rule R80). Safe. -/
  | reservedOpcode
  /-- Raised by the command decoder on a stream that ends inside a command (rule R79). Safe. -/
  | truncatedCommand
  /-- Raised by the control-word decoder, and by `ROUND` with a reserved field (rule R85). Safe. -/
  | reservedUop
  deriving DecidableEq, Repr

/-- The state. The first nine fields are the table of rule R20; the rest are inputs and outputs of a step (rule R31)
and, last, two fields of the model's own. -/
@[ext]
structure State where
  /-- `H[0..2]` = `a, b, c`, the hash state (rule R21). -/
  h : Vector Word 3
  /-- `buf[0..63]`, the pending block buffer (rule R22). -/
  buf : Block
  /-- `fill`, the number of valid bytes of `buf` (rule R23). -/
  fill : BitVec 6
  /-- `len`, the total length counter, in bytes (rule R24). -/
  len : Word
  /-- `done`, the one status flag (rule R26). -/
  done : Bool
  /-- `X[0..7]`, the working words (rule R27). -/
  x : Vector Word 8
  /-- `S[0..2]` = `aa, bb, cc`, the saved hash state (rule R28). -/
  saved : Vector Word 3
  /-- `seq`, the micro-sequencer: 0 to 28, or `none` for idle (rule R29). -/
  seq : Option (Fin 29)
  /-- `SBOX[0..1023]`, the read-only table (rule R30): the argument of the model (rule R72, log entry 2). -/
  sbox : Vector Word 1024
  /-- The current block source (rule R101, log entry 14). -/
  source : BlockSource
  /-- The command stream the engine has not taken yet (rules R75, R198, log entry 10). -/
  input : List Byte
  /-- The responses delivered to the host, oldest first (rule R90, log entry 11). -/
  responses : List (List Byte)
  /-- A hardware reset is asserted (rules R190, R191, log entry 12). -/
  resetLine : Bool
  /-- The model's own: a control word presented to the micro-step function for one step (log entry 13). -/
  testWord : Option (BitVec 10)
  /-- The model's own: the next draw of a free value (log entry 5). -/
  fresh : Nat
  deriving DecidableEq, Repr

/-- The unspecified contents of `buf` at a draw (rules R32, R36; log entries 4 and 6). -/
@[irreducible] def freeBuf (draw : Nat) : Block := Vector.ofFn fun i => Config.freeByte draw i.val

/-- The unspecified contents of `X` at a draw (rules R27, R32; log entries 4 and 7). -/
@[irreducible] def freeX (draw : Nat) : Vector Word 8 := Vector.ofFn fun j => Config.freeWord draw j.val

/-- The unspecified contents of `S` at a draw (rules R28, R32; log entries 4 and 7). -/
@[irreducible] def freeSaved (draw : Nat) : Vector Word 3 := Vector.ofFn fun j => Config.freeWord draw (8 + j.val)

/-- The machine right after reset, that is, after creation (rules R32, R190, R191): nothing sent, nothing answered.
`buf`, `X` and `S` hold the free values of draw 0 (log entry 4). -/
def State.reset : State where
  h := Config.iv
  buf := freeBuf 0
  fill := 0
  len := 0
  done := false
  x := freeX 0
  saved := freeSaved 0
  seq := none
  sbox := sboxTable
  source := .buffer
  input := []
  responses := []
  resetLine := false
  testWord := none
  fresh := 1

end Sys2Proof.Machine
end

