-- ==== Sys2Proof/Machine/Ops.lean ====
section
/-!
DEFINITION. The named operations over the engine's storage and registers: ROM reads, buffer writes, the sequencer,
the span of one `COMPRESS`, the response, and the hardware reset.

TAKING AN EXCEPTION has no operation here because the engine has none to take: no trap vector, saved pc, saved status
or handler mode (60_exceptions.md rules R170, R174), and no return from one (rule R175). The only event that moves
the engine out of what it is doing is the hardware reset (rules R190, R191), below.
-/
namespace Sys2Proof.Machine

/-- `RomRead(g, i) = T_g[i] = SBOX[256*g + i]` (rules R11, R51, R71). The index is always in range: `i` is a byte. -/
def romRead (sbox : Vector Word 1024) (g : Fin 4) (i : Byte) : Word :=
  sbox[256 * g.val + i.toNat]'(by have := g.isLt; have := i.isLt; omega)

/-- `MemWrite` of consecutive bytes into `buf`, starting at index `at_` (rules R11, R52). -/
def State.memWrite (s : State) (at_ : Nat) (bytes : List Byte) : State :=
  { s with buf := writeBytes s.buf at_ bytes }

/-- The value after `k` of the sequencer inside the micro-program: `k + 1`, and idle after 28 (rules R29, R87; log
entry 9). -/
def seqNext (k : Fin 29) : Option (Fin 29) :=
  if h : k.val + 1 < 29 then some ⟨k.val + 1, h⟩ else none

/-- `seq <- seq + 1`, the end of every micro-operation but `FEEDFWD` (rule R29). With an idle sequencer the spec
states no result: a free value (log entry 8). -/
def State.advanceSeq (s : State) : State :=
  match s.seq with
  | some k => { s with seq := seqNext k }
  | none => { s with seq := Config.freeSeq s.fresh, fresh := s.fresh + 1 }

/-- `seq <- idle`, the end of `FEEDFWD` (rule R106). -/
def State.idleSeq (s : State) : State := { s with seq := none }

/-- The start of `COMPRESS(blk)`: the block source is chosen and `seq <- 0` (rule R105). -/
def State.beginCompress (b : BlockSource) (s : State) : State := { s with source := b, seq := some 0 }

/-- The end of a `COMPRESS` that a command ran: the payload chunk is gone (rule R50), and `X` and `S` hold
unspecified values outside the span (rules R27, R28; log entries 7 and 14). -/
def State.endCompress (s : State) : State :=
  { s with source := .buffer, x := freeX s.fresh, saved := freeSaved s.fresh, fresh := s.fresh + 1 }

/-- The response of `FINALIZE`: the 24 bytes of the digest go to the host (rules R63, R90, R155). -/
def State.respond (s : State) : State := { s with responses := s.responses ++ [digestBytes s.h] }

/-- `buf`, `fill` and `len` become unspecified, as `FINALIZE` leaves them (rules R36, R157; 90_conflicts.md C10; log
entry 6). -/
def State.forgetMessage (s : State) : State :=
  { s with buf := freeBuf s.fresh, fill := Config.freeFill s.fresh, len := Config.freeLen s.fresh,
           fresh := s.fresh + 1 }

/-- The registers that both reset sources put in place: `H`, `fill`, `len`, `done` (rules R32, R159). -/
def State.clearMessage (s : State) : State :=
  { s with h := Config.iv, fill := 0, len := 0, done := false }

/-- A hardware reset (rules R190, R191): the reset state, with the running `COMPRESS` abandoned, `buf`, `X` and `S`
unspecified, `SBOX` untouched; what the host has sent and not yet had taken stays, and so do the responses it already
has (log entry 12). -/
def State.hardwareReset (s : State) : State :=
  { s.clearMessage with
    buf := freeBuf s.fresh, x := freeX s.fresh, saved := freeSaved s.fresh, seq := none,
    source := .buffer, resetLine := false, testWord := none, fresh := s.fresh + 1 }

end Sys2Proof.Machine
end

