-- ==== Sys2Proof/Machine/Flags.lean ====
section
/-!
DEFINITION. The one flag of the engine, `done` (10_state.md rule R26): there are no condition codes and no operation
records a carry, a borrow or an overflow (rules R8, R107). `RESET` clears it (`State.clearMessage`), `FINALIZE` sets
it, `UPDATE` and `FINALIZE` are refused while it is set (60_exceptions.md rule R171).
-/
namespace Sys2Proof.Machine

/-- `done <- 1` (rule R156). -/
def State.setDone (s : State) : State := { s with done := true }

/-- The guard of `UPDATE` and `FINALIZE`: refused when `done = 1`, before any other condition (rules R163, R171,
R173). The guard is the model's; the hardware does not test the flag (rule R26). -/
def unlessDone (s : State) (k : State → Host.Outcome State Fault Refusal) : Host.Outcome State Fault Refusal :=
  if s.done then .refused .afterFinalize else k s

end Sys2Proof.Machine
end

