-- ==== Sys2Proof/Machine/Operands.lean ====
section
/-!
DEFINITION. Every operand form of the spec: the fields `m`, `rot`, `w` of a control word (30_encoding.md rules R82 to
R84), the block source of `LOADX` (40_compression.md rule R101), and the way `UPDATE` divides its payload into
top-up, whole chunks and leftover (42_streaming_update.md rules R131 to R133).
-/
namespace Sys2Proof.Machine

/-- A two-bit field whose value 3 is reserved (rules R82, R83, R85). -/
def legalField (f : BitVec 2) : Option (Fin 3) :=
  if h : f.toNat < 3 then some ⟨f.toNat, h⟩ else none

/-- Field `m`: the pass multiplier `M = 5 + 2*m` (rule R82). -/
def multiplier (m : Fin 3) : Word := BitVec.ofNat 64 (5 + 2 * m.val)

/-- The registers of `H` that play the three roles of a round (rule R83). -/
structure Roles where
  /-- The a-role, subtracted from. -/
  ia : Fin 3
  /-- The b-role, added to and multiplied. -/
  ib : Fin 3
  /-- The c-role, XORed with the block word and used as the table index. -/
  ic : Fin 3
  deriving DecidableEq, Repr

/-- Field `rot`: `ia = rot`, `ib = (rot+1) mod 3`, `ic = (rot+2) mod 3` (rules R83, R103). -/
def roles (rot : Fin 3) : Roles where
  ia := rot
  ib := Fin.ofNat 3 (rot.val + 1)
  ic := Fin.ofNat 3 (rot.val + 2)

/-- Field `w`: the index of the block word; all eight values are legal (rule R84). -/
def wordIndex (w : BitVec 3) : Fin 8 := w.toFin

/-- The 64 bytes that a block source stands for, given the pending block buffer (rules R54, R101). -/
def blockOf (b : BlockSource) (buf : Block) : Block :=
  match b with
  | .buffer => buf
  | .payload chunk => chunk

/-- The 64 bytes of the current block source, what `LOADX` reads (rule R101). -/
def State.blockBytes (s : State) : Block := blockOf s.source s.buf

/-- `t`, the number of payload bytes that top up a partial buffer: `min(64 - fill, n)` if `fill > 0`, else none
(rule R131). -/
def topUpCount (fill : BitVec 6) (n : Nat) : Nat :=
  if fill = 0 then 0 else min (64 - fill.toNat) n

/-- The number of whole 64-byte chunks that follow the top-up: `floor((n - p) / 64)` (rules R91, R132). -/
def chunkCount (fill : BitVec 6) (n : Nat) : Nat := (n - topUpCount fill n) / 64

/-- `r`, the number of payload bytes left over after the whole chunks (rule R133). -/
def leftoverCount (fill : BitVec 6) (n : Nat) : Nat := (n - topUpCount fill n) % 64

/-- Whether an `UPDATE` of `n` bytes stores into `buf` at index `a`: in the top-up, at `fill + k` for `k < t`, or in
the leftover copy, below `r` (rules R131, R133). -/
def updateStores (fill : BitVec 6) (n a : Nat) : Prop :=
  (fill.toNat ≤ a ∧ a < fill.toNat + topUpCount fill n) ∨ a < leftoverCount fill n

end Sys2Proof.Machine
end

