-- ==== Sys2Proof/Machine/Compression.lean ====
section
/-!
DEFINITION. The micro-operations of the compression function, `LOADX`, `SAVE`, `ROUND`, `FEEDFWD`
(40_compression.md rules R101, R102, R103, R106): each first as a function of words, then as what it does to the
state, then as the meaning of its constructor.
-/
namespace Sys2Proof.Machine

/-- `LOADX` on the state: `X` from the current block source, then `seq + 1` (rule R101). -/
def State.loadX (s : State) : State := { s with x := blockWords s.blockBytes }.advanceSeq

/-- `SAVE` on the state: `S <- H`, then `seq + 1` (rule R102). -/
def State.saveH (s : State) : State := { s with saved := s.h }.advanceSeq

/-- What a round subtracts from the a-role: bytes 0, 2, 4, 6 of the new c-role word index groups 0, 1, 2, 3 (rules
R103, R110). -/
def evenLookups (sbox : Vector Word 1024) (t : Word) : Word :=
  romRead sbox 0 (byteOf 0 t) ^^^ romRead sbox 1 (byteOf 2 t) ^^^ romRead sbox 2 (byteOf 4 t) ^^^
    romRead sbox 3 (byteOf 6 t)

/-- What a round adds to the b-role: bytes 1, 3, 5, 7 of the new c-role word index groups 3, 2, 1, 0 (rules R103,
R110). -/
def oddLookups (sbox : Vector Word 1024) (t : Word) : Word :=
  romRead sbox 3 (byteOf 1 t) ^^^ romRead sbox 2 (byteOf 3 t) ^^^ romRead sbox 1 (byteOf 5 t) ^^^
    romRead sbox 0 (byteOf 7 t)

/-- One round step on the hash state, with block word `word` (rule R103), line by line. -/
def roundWords (sbox : Vector Word 1024) (m rot : Fin 3) (word : Word) (h : Vector Word 3) : Vector Word 3 :=
  let r := roles rot
  let h := h.set r.ic (h[r.ic] ^^^ word)
  let t := h[r.ic]
  let h := h.set r.ia (h[r.ia] - evenLookups sbox t)
  let h := h.set r.ib (h[r.ib] + oddLookups sbox t)
  h.set r.ib (h[r.ib] * multiplier m)

/-- `ROUND m, rot, w` on the state, for legal fields (rule R103). -/
def State.roundStep (m rot : Fin 3) (w : Fin 8) (s : State) : State :=
  { s with h := roundWords s.sbox m rot s.x[w] s.h }.advanceSeq

/-- The feed-forward: `a ^= aa; b -= bb; c += cc` (rule R106). -/
def feedWords (saved h : Vector Word 3) : Vector Word 3 :=
  #v[h[0] ^^^ saved[0], h[1] - saved[1], h[2] + saved[2]]

/-- `FEEDFWD` on the state: the combine, then `seq <- idle` (rule R106). -/
def State.feedForward (s : State) : State := { s with h := feedWords s.saved s.h }.idleSeq

/-- Meaning of `LOADX` (rule R101). -/
def execLoadx (s : State) : Host.Outcome State Fault Refusal := .next s.loadX

/-- Meaning of `SAVE` (rule R102). -/
def execSave (s : State) : Host.Outcome State Fault Refusal := .next s.saveH

/-- Meaning of `ROUND m, rot, w` (rule R103); a reserved field is refused (rules R85, R171). -/
def execRound (m rot : BitVec 2) (w : BitVec 3) (s : State) : Host.Outcome State Fault Refusal :=
  match legalField m, legalField rot with
  | some m', some rot' => .next (s.roundStep m' rot' (wordIndex w))
  | _, _ => .refused .reservedUop

/-- Meaning of `FEEDFWD` (rule R106). -/
def execFeedfwd (s : State) : Host.Outcome State Fault Refusal := .next s.feedForward

end Sys2Proof.Machine
end

