-- ==== Sys2Proof/Machine/KeySchedule.lean ====
section
/-!
DEFINITION. The key schedule, `KEYSCHED` (41_key_schedule.md rule R121).
-/
namespace Sys2Proof.Machine

/-- The sixteen assignments of rule R121, in order; each uses what the earlier ones wrote. The complement comes first,
then the logical shift, then the exclusive or (rules R121, R122). -/
def keySchedule (x : Vector Word 8) : Vector Word 8 :=
  let x := x.set 0 (x[0] - (x[7] ^^^ Config.k1))
  let x := x.set 1 (x[1] ^^^ x[0])
  let x := x.set 2 (x[2] + x[1])
  let x := x.set 3 (x[3] - (x[2] ^^^ ((~~~x[1]) <<< 19)))
  let x := x.set 4 (x[4] ^^^ x[3])
  let x := x.set 5 (x[5] + x[4])
  let x := x.set 6 (x[6] - (x[5] ^^^ ((~~~x[4]) >>> 23)))
  let x := x.set 7 (x[7] ^^^ x[6])
  let x := x.set 0 (x[0] + x[7])
  let x := x.set 1 (x[1] - (x[0] ^^^ ((~~~x[7]) <<< 19)))
  let x := x.set 2 (x[2] ^^^ x[1])
  let x := x.set 3 (x[3] + x[2])
  let x := x.set 4 (x[4] - (x[3] ^^^ ((~~~x[2]) >>> 23)))
  let x := x.set 5 (x[5] ^^^ x[4])
  let x := x.set 6 (x[6] + x[5])
  x.set 7 (x[7] - (x[6] ^^^ Config.k2))

/-- `KEYSCHED` on the state: `X` in place, then `seq + 1` (rules R120, R121, R124). -/
def State.keySched (s : State) : State := { s with x := keySchedule s.x }.advanceSeq

/-- Meaning of `KEYSCHED` (rule R121). -/
def execKeysched (s : State) : Host.Outcome State Fault Refusal := .next s.keySched

end Sys2Proof.Machine
end

