-- ==== Sys2Proof/Machine/Compress.lean ====
section
/-!
DEFINITION. The macros `PASS` and `COMPRESS` (40_compression.md rules R104, R105): on the state, by the
micro-operations they are names for; and as the pure function of hash state and block that the contract of rule R100
describes.
-/
namespace Sys2Proof.Machine

/-- The round numbers of a pass, which are also its word indices (rule R104). -/
def passRounds : List (Fin 8) := [0, 1, 2, 3, 4, 5, 6, 7]

/-- The role rotation of round `i` of a pass that starts at `r0`: `(r0 + i) mod 3` (rules R104, R108). -/
def passRot (r0 : Fin 3) (i : Fin 8) : Fin 3 := Fin.ofNat 3 (r0.val + i.val)

/-- `PASS m, r0`: eight rounds over the eight words in order (rule R104). -/
def State.pass (m r0 : Fin 3) (s : State) : State :=
  passRounds.foldl (fun s i => s.roundStep m (passRot r0 i) i) s

/-- `COMPRESS(blk)`: the 29 micro-operations in the order of rule R105. -/
def State.compress (b : BlockSource) (s : State) : State :=
  ((((((((s.beginCompress b).loadX).saveH).pass 0 0).keySched).pass 1 2).keySched).pass 2 1).feedForward

/-- A `COMPRESS` inside a command, with its end (rules R27, R28, R105). -/
def State.compressBlock (b : BlockSource) (s : State) : State := (s.compress b).endCompress

/-- `PASS` as a function of words (rule R104). -/
def passWords (sbox : Vector Word 1024) (m r0 : Fin 3) (x : Vector Word 8) (h : Vector Word 3) : Vector Word 3 :=
  passRounds.foldl (fun h i => roundWords sbox m (passRot r0 i) x[i] h) h

/-- `compress(state, block) -> state'`, the pure function of the contract (rules R100, R105). -/
def compressWords (sbox : Vector Word 1024) (h : Vector Word 3) (blk : Block) : Vector Word 3 :=
  let x0 := blockWords blk
  let x1 := keySchedule x0
  let x2 := keySchedule x1
  feedWords h (passWords sbox 2 1 x2 (passWords sbox 1 2 x1 (passWords sbox 0 0 x0 h)))

end Sys2Proof.Machine
end

