-- ==== Sys2Proof/Machine/Finalize.lean ====
section
/-!
DEFINITION. Padding and finalisation, `FINALIZE` (43_finalize_reset.md rule R156), and `RESET` (rule R159).
-/
namespace Sys2Proof.Machine

/-- `L = (len * 8) mod 2^64`, the message length in bits (rule R152). -/
def State.bitLength (s : State) : Word := s.len * 8

/-- Step 1: the terminator at index `fill`, zeros after it up to index 63 (rule R151). -/
def State.padTail (s : State) : State :=
  s.memWrite s.fill.toNat (Config.terminator :: List.replicate (63 - s.fill.toNat) 0)

/-- Step 2, `fill < 56`: the length field at 56..63, then one `COMPRESS` (rule R153). -/
def State.finishOneBlock (bits : Word) (s : State) : State :=
  (s.memWrite 56 (le64 bits)).compressBlock .buffer

/-- Step 3, `fill >= 56`: the padded block first, then a block of zeros and the length field (rule R154). -/
def State.finishTwoBlocks (bits : Word) (s : State) : State :=
  (((s.compressBlock .buffer).memWrite 0 (List.replicate 56 0)).memWrite 56 (le64 bits)).compressBlock .buffer

/-- Steps 1 to 3: the padding and its one or two compressions (rules R151 to R154). -/
def State.padAndCompress (s : State) : State :=
  if s.fill.toNat < 56 then s.padTail.finishOneBlock s.bitLength
  else s.padTail.finishTwoBlocks s.bitLength

/-- Meaning of `FINALIZE` (rule R156): padding, response, `done`; then `buf`, `fill`, `len` are unspecified (rule
R157; 90_conflicts.md C10). -/
def execFinalize (s : State) : Host.Outcome State Fault Refusal :=
  unlessDone s fun s => .next s.padAndCompress.respond.setDone.forgetMessage

/-- Meaning of `RESET` (rule R159): legal in every state; `buf`, `X`, `S` and `SBOX` are not written. -/
def execReset (s : State) : Host.Outcome State Fault Refusal := .next s.clearMessage

end Sys2Proof.Machine
end

