-- ==== Sys2Proof/Machine/Streaming.lean ====
section
/-!
DEFINITION. The streaming state machine, `UPDATE` (42_streaming_update.md rule R134): three phases, each an operation
of its own. `len` advances by the number of NEW bytes in every phase (rule R135; 90_conflicts.md C1).
-/
namespace Sys2Proof.Machine

/-- Phase 1: top up a partial buffer with the first `t` payload bytes; a buffer that becomes full is compressed and
emptied (rule R131). -/
def State.topUp (d : List Byte) (s : State) : State :=
  if s.fill = 0 then s
  else
    let t := topUpCount s.fill d.length
    let s' := { s.memWrite s.fill.toNat (d.take t) with len := s.len + BitVec.ofNat 64 t }
    if s.fill.toNat + t = 64 then { s'.compressBlock .buffer with fill := 0 }
    else { s' with fill := s.fill + BitVec.ofNat 6 t }

/-- Phase 2: compress `q` whole chunks straight from the payload, in order (rule R132). -/
def State.absorbChunks : Nat → List Byte → State → State
  | 0, _, s => s
  | q + 1, d, s =>
    let s' := s.compressBlock (.payload (blockOfList (d.take 64)))
    State.absorbChunks q (d.drop 64) { s' with len := s'.len + 64 }

/-- Phase 3: copy the leftover bytes to the front of the buffer (rule R133). -/
def State.storeLeftover (r : List Byte) (s : State) : State :=
  if r = [] then s
  else { s.memWrite 0 r with fill := BitVec.ofNat 6 r.length, len := s.len + BitVec.ofNat 64 r.length }

/-- The three phases in order (rule R134). -/
def State.absorb (d : List Byte) (s : State) : State :=
  let rest := d.drop (topUpCount s.fill d.length)
  let q := chunkCount s.fill d.length
  State.storeLeftover (rest.drop (64 * q)) (State.absorbChunks q rest (s.topUp d))

/-- Meaning of `UPDATE n, d` (rule R134), with its two guards in the order of rule R173. -/
def execUpdate (d : List Byte) (s : State) : Host.Outcome State Fault Refusal :=
  unlessDone s fun s =>
    if s.len.toNat + d.length > Config.maxLen then .refused .lengthOverflow
    else .next (s.absorb d)

end Sys2Proof.Machine
end

