-- ==== Sys2Proof/Syntax.lean ====
section
/-!
DEFINITION. The instruction set: the three host commands and the five micro-operations of 30_encoding.md rule R75,
one constructor per row of the opcode table.
-/
namespace Sys2Proof

/-- One instruction of either level (rule R75). A command carries its operands as the host sends them, a
micro-operation the fields of its control word (rule R81). -/
inductive Instr where
  /-- `RESET`, host command (rules R76, R159). -/
  | reset
  /-- `UPDATE n, d`, host command (rules R77, R134): the payload `d`; `n` is its length. -/
  | update (d : List Byte)
  /-- `FINALIZE`, host command (rules R76, R156). -/
  | finalize
  /-- `LOADX`, micro-operation (rules R81, R101). -/
  | loadx
  /-- `SAVE`, micro-operation (rules R81, R102). -/
  | save
  /-- `ROUND m, rot, w`, micro-operation (rules R81 to R84, R103). -/
  | round (m rot : BitVec 2) (w : BitVec 3)
  /-- `KEYSCHED`, micro-operation (rules R81, R121). -/
  | keysched
  /-- `FEEDFWD`, micro-operation (rules R81, R106). -/
  | feedfwd
  deriving DecidableEq, Repr

end Sys2Proof
end

