-- ==== Sys2Proof/Machine/Dispatch.lean ====
section
/-!
DEFINITION. One arm per constructor of `Instr`, each one direct call of its meaning.
-/
namespace Sys2Proof.Machine

/-- The meaning of each instruction (30_encoding.md rule R75). -/
def exec (i : Instr) (s : State) : Host.Outcome State Fault Refusal :=
  match i with
  | .reset => Sys2Proof.Machine.execReset s
  | .update d => Sys2Proof.Machine.execUpdate d s
  | .finalize => Sys2Proof.Machine.execFinalize s
  | .loadx => Sys2Proof.Machine.execLoadx s
  | .save => Sys2Proof.Machine.execSave s
  | .round m rot w => Sys2Proof.Machine.execRound m rot w s
  | .keysched => Sys2Proof.Machine.execKeysched s
  | .feedfwd => Sys2Proof.Machine.execFeedfwd s

end Sys2Proof.Machine
end

