-- ==== Sys2Proof/WellFormed.lean ====
section
/-!
DEFINITION. Which instructions have an encoding: the constraints of the opcode table on the fields of `ROUND` and
the 64-bit length operand of `UPDATE`.
-/
namespace Sys2Proof

/-- The instruction has an encoding. `UPDATE`: the payload's length fits the 64-bit operand `n` (rule R77, log entry
18). `ROUND`: neither `m` nor `rot` is the reserved value 3 (rules R82, R83, R85). -/
def Instr.wellFormed : Instr → Bool
  | .reset => true
  | .update d => decide (d.length < 2 ^ 64)
  | .finalize => true
  | .loadx => true
  | .save => true
  | .round m rot _ => m != 3#2 && rot != 3#2
  | .keysched => true
  | .feedfwd => true

end Sys2Proof
end

