-- ==== Sys2Proof/Decode.lean ====
section
/-!
DEFINITION. The two decoders of 30_encoding.md rule R75: host command bytes (rules R76 to R80) and 10-bit control
words (rules R81 to R85), both total, each rejection by name; then the encoder, written from the same tables.
-/
namespace Sys2Proof

open Sys2Proof.Machine

/-- Why a byte stream or a control word spells no instruction: the three decode refusals of rule R171. -/
inductive DecodeError where
  /-- The first byte of a command is `0x00` or `0x04` to `0xFF` (rule R80). -/
  | reservedOpcode
  /-- The stream ends inside a command (rule R79). -/
  | truncatedCommand
  /-- The control word is outside the 76 legal ones (rule R85). -/
  | reservedUop
  deriving DecidableEq, Repr

/-- An encoded instruction: command bytes, or a control word. The two sets share no number space (rule R75). -/
inductive Code where
  | command (bytes : List Byte)
  | uop (word : BitVec 10)
  deriving DecidableEq, Repr

/-- The part of an `UPDATE` after its opcode: `n` as eight bytes little-endian, then `n` payload bytes (rules R77,
R79); with the rest of the stream. -/
def decodeUpdate (s : List Byte) : Except DecodeError (Instr × List Byte) :=
  if s.length < 8 then .error .truncatedCommand
  else
    let n := leNat (s.take 8)
    let p := s.drop 8
    if p.length < n then .error .truncatedCommand
    else .ok (.update (p.take n), p.drop n)

/-- The host command decoder: the first command of a stream, and the rest of the stream (rules R78 to R80). The
empty stream holds no whole command. -/
def decodeCommand : List Byte → Except DecodeError (Instr × List Byte)
  | [] => .error .truncatedCommand
  | op :: s =>
    if op = 0x01#8 then .ok (.reset, s)
    else if op = 0x02#8 then decodeUpdate s
    else if op = 0x03#8 then .ok (.finalize, s)
    else .error .reservedOpcode

/-- A control word that has no fields: bits 6 to 0 must be zero (rules R81, R85). -/
def decodePlain (u : BitVec 10) (i : Instr) : Except DecodeError Instr :=
  if u.extractLsb' 0 7 = 0#7 then .ok i else .error .reservedUop

/-- The control word of `ROUND`: `m = u[6:5]`, `rot = u[4:3]`, `w = u[2:0]`, 3 reserved in `m` and in `rot` (rules
R81 to R85). -/
def decodeRound (u : BitVec 10) : Except DecodeError Instr :=
  if u.extractLsb' 5 2 = 3#2 ∨ u.extractLsb' 3 2 = 3#2 then .error .reservedUop
  else .ok (.round (u.extractLsb' 5 2) (u.extractLsb' 3 2) (u.extractLsb' 0 3))

/-- The micro-operation decoder: `op = u[9:7]` selects the row, 5 to 7 are reserved (rules R81, R85). -/
def decodeUop (u : BitVec 10) : Except DecodeError Instr :=
  if u.extractLsb' 7 3 = 0#3 then decodePlain u .loadx
  else if u.extractLsb' 7 3 = 1#3 then decodePlain u .save
  else if u.extractLsb' 7 3 = 2#3 then decodeRound u
  else if u.extractLsb' 7 3 = 3#3 then decodePlain u .keysched
  else if u.extractLsb' 7 3 = 4#3 then decodePlain u .feedfwd
  else .error .reservedUop

/-- The decoder of either level, with what is left of a command stream (a control word leaves nothing). -/
def decode : Code → Except DecodeError (Instr × List Byte)
  | .command bytes => decodeCommand bytes
  | .uop u =>
    match decodeUop u with
    | .ok i => .ok (i, [])
    | .error e => .error e

/-- The encoding of an instruction (rules R76, R77, R81). -/
def encode : Instr → Code
  | .reset => .command [0x01#8]
  | .update d => .command (0x02#8 :: (le64 (BitVec.ofNat 64 d.length) ++ d))
  | .finalize => .command [0x03#8]
  | .loadx => .uop 0b0000000000#10
  | .save => .uop 0b0010000000#10
  | .round m rot w => .uop (0b010#3 ++ m ++ rot ++ w)
  | .keysched => .uop 0b0110000000#10
  | .feedfwd => .uop 0b1000000000#10

/-- Whether a row of the opcode table, given as `nbits` in whole bytes, is a control word: 10 bits take two bytes,
while a command has one byte (`H0`, or the opcode of `H1`) or at least nine (log entry 19). -/
def tableRowIsUop (nbits : Nat) : Bool := decide (8 < nbits ∧ nbits ≤ 16)

/-- The control word whose bits the table numbers `w`. A number that needs more than ten bits spells none; the
reserved word `0x3FF` stands for it. -/
def tableUop (w : Nat) : BitVec 10 := if w < 1024 then BitVec.ofNat 10 w else 0x3FF#10

/-- The low `k` bytes of `w`, byte 0 first: the order in which the command's bytes are sent. -/
def bytesOfNat : Nat → Nat → List Byte
  | 0, _ => []
  | k + 1, w => BitVec.ofNat 8 w :: bytesOfNat k (w / 256)

/-- The command bytes that the table numbers `w`: the bytes it gives, then zeros for the header and payload bytes it
does not give. -/
def tableCommand (nbits w : Nat) : List Byte :=
  let given := bytesOfNat ((nbits + 7) / 8) w
  if given.head? = some 0x02#8 then
    let header := given ++ List.replicate (9 - given.length) 0#8
    header ++ List.replicate (9 + leNat ((header.drop 1).take 8) - header.length) 0#8
  else given

/-- What the decoder reads from an instruction whose bits are `w`, numbered as the opcode table numbers them. -/
def decodeTableWord (nbits w : Nat) : Option Instr :=
  if tableRowIsUop nbits then
    match decodeUop (tableUop w) with
    | .ok i => some i
    | .error _ => none
  else
    match decodeCommand (tableCommand nbits w) with
    | .ok (i, _) => some i
    | .error _ => none

end Sys2Proof
end

