-- ==== Sys2Proof/Machine/Fetch.lean ====
section
/-!
DEFINITION. What the engine does next, and where it takes it from: an asserted hardware reset, a control word under
test, the micro-program word that a running sequencer selects (10_state.md rule R29), or the next command of the
stream (70_reset_and_hazards.md rule R195), in that order (log entry 24).
-/
namespace Sys2Proof.Machine

/-- What a step finds to do. -/
inductive Fetched where
  /-- A hardware reset is asserted (rules R190, R191). -/
  | hardwareReset
  /-- Nothing is sent: the engine waits (rule R198). -/
  | wait
  /-- An instruction, and the state with its encoding taken. -/
  | run (i : Instr) (s : State)
  /-- What was found has no meaning (rules R79, R80, R85). -/
  | reject (r : Refusal)
  deriving DecidableEq, Repr

/-- The refusal that a decode error is reported as (rule R171). -/
def refusalOf : DecodeError → Refusal
  | .reservedOpcode => .reservedOpcode
  | .truncatedCommand => .truncatedCommand
  | .reservedUop => .reservedUop

/-- A control word, to be performed on the given state (rules R81, R85). -/
def fetchUop (u : BitVec 10) (s : State) : Fetched :=
  match decodeUop u with
  | .ok i => .run i s
  | .error e => .reject (refusalOf e)

/-- The next command of the stream (rules R79, R195); an exhausted stream is no error (rule R198). -/
def fetchCommand (s : State) : Fetched :=
  match s.input with
  | [] => .wait
  | _ :: _ =>
    match decodeCommand s.input with
    | .ok (i, rest) => .run i { s with input := rest }
    | .error e => .reject (refusalOf e)

/-- The next thing to do (rules R29, R191, R195; log entry 24). -/
def fetch (s : State) : Fetched :=
  if s.resetLine then .hardwareReset
  else
    match s.testWord with
    | some u => fetchUop u { s with testWord := none }
    | none =>
      match s.seq with
      | some k => fetchUop microProgram[k] s
      | none => fetchCommand s

/-- The state with the instruction that the opcode table numbers `w` placed where the next fetch takes it: a control
word at the test port, a command at the front of the stream with the sequencer idle. -/
def State.placeWord (s : State) (nbits w : Nat) : State :=
  if tableRowIsUop nbits then { s with resetLine := false, testWord := some (tableUop w) }
  else { s with resetLine := false, testWord := none, seq := none, input := tableCommand nbits w ++ s.input }

end Sys2Proof.Machine
end

