-- ==== Sys2Proof/Machine/Step.lean ====
section
/-!
DEFINITION. One step of the engine (00_scope.md rules R12, R14): one command, or one micro-operation while the
sequencer runs, or a hardware reset, or waiting.
-/
namespace Sys2Proof.Machine

/-- One step (rule R14): what `fetch` finds, performed. -/
def step (s : State) : Host.Outcome State Fault Refusal :=
  match fetch s with
  | .hardwareReset => .next s.hardwareReset
  | .wait => .next s
  | .run i s' => exec i s'
  | .reject r => .refused r

/-- `s` with the instruction that the opcode table numbers `w` (in `nbits` bits) placed where `step` fetches its next
instruction (log entries 10, 13 and 19). -/
def State.withFetchWord (s : State) (nbits w : Nat) : State := s.placeWord nbits w

end Sys2Proof.Machine
end

