-- ==== Sys2Proof/Machine/Pseudo.lean ====
section
/-!
DEFINITION. The pseudo-instructions of 30_encoding.md rule R89, each as its expansion. None has an encoding of its own.
-/
namespace Sys2Proof.Machine

/-- `ABSORB b` is `UPDATE x"b"` with `n = 1` (rule R89). -/
def absorbCommand (b : Byte) : List Instr := [.update [b]]

/-- `HASH d` is `RESET ; UPDATE d ; FINALIZE` (rule R89). -/
def hashCommands (d : List Byte) : List Instr := [.reset, .update d, .finalize]

/-- The `ROUND` of a pass with multiplier field `m`, start rotation `r0` and round number `i` (rules R89, R104). -/
def passRound (m r0 : Nat) (i : Nat) : Instr :=
  .round (BitVec.ofNat 2 m) (BitVec.ofNat 2 ((r0 + i) % 3)) (BitVec.ofNat 3 i)

/-- `PASS m, r0` is eight `ROUND`s (rule R89). -/
def passOps (m r0 : Nat) : List Instr := [0, 1, 2, 3, 4, 5, 6, 7].map (passRound m r0)

/-- `COMPRESS` is `LOADX ; SAVE ; PASS 0,0 ; KEYSCHED ; PASS 1,2 ; KEYSCHED ; PASS 2,1 ; FEEDFWD` (rule R89). -/
def compressOps : List Instr :=
  [.loadx, .save] ++ passOps 0 0 ++ [.keysched] ++ passOps 1 2 ++ [.keysched] ++ passOps 2 1 ++ [.feedfwd]

end Sys2Proof.Machine
end

