-- ==== Sys2Proof/Machine/Assembler.lean ====
section
/-!
DEFINITION. The text of command scripts and micro-programs (30_encoding.md rule R88) and of the pseudo-instructions
(rule R89): one line at a time, as characters; and the text of one instruction. Details that rule R88 leaves open
(whether one text may mix the two levels, `--` between quotes, where spaces may stand, lower-case hexadecimal, the
operand of `ABSORB` and the rest) are log entry 23.
-/
namespace Sys2Proof.Machine

/-- The double quote, character 34. -/
def quoteChar : Char := Char.ofNat 34

/-- The text after leading spaces. -/
def skipSpaces : List Char → List Char
  | [] => []
  | c :: cs => if c = ' ' then skipSpaces cs else c :: cs

/-- Nothing but spaces, or a comment from `--` to the end of the line (rule R88). -/
def lineEnds (cs : List Char) : Bool :=
  match skipSpaces cs with
  | [] => true
  | '-' :: '-' :: _ => true
  | _ => false

/-- The value of a hexadecimal digit. -/
def hexVal (c : Char) : Option Nat :=
  if 48 ≤ c.toNat ∧ c.toNat ≤ 57 then some (c.toNat - 48)
  else if 65 ≤ c.toNat ∧ c.toNat ≤ 70 then some (c.toNat - 55)
  else if 97 ≤ c.toNat ∧ c.toNat ≤ 102 then some (c.toNat - 87)
  else none

/-- An ASCII payload up to its closing quote: the bytes of the characters (rule R88). DESIGN CHOICE (log entry 23):
`--` between the quotes is payload and starts no comment, and a quote inside a payload cannot be written; rule R88 says
only that comments start at `--` and run to the end of the line. -/
def textPayload : List Char → Option (List Byte × List Char)
  | [] => none
  | c :: cs =>
    if c = quoteChar then some ([], cs)
    else if c.toNat < 128 then
      match textPayload cs with
      | some (d, rest) => some (BitVec.ofNat 8 c.toNat :: d, rest)
      | none => none
    else none

/-- A hexadecimal payload up to its closing quote: byte pairs, spaces optional between pairs (rule R88). -/
def hexPayload : List Char → Option (List Byte × List Char)
  | [] => none
  | [c] => if c = quoteChar then some ([], []) else none
  | c :: c' :: cs =>
    if c = quoteChar then some ([], c' :: cs)
    else if c = ' ' then hexPayload (c' :: cs)
    else
      match hexVal c, hexVal c', hexPayload cs with
      | some a, some b, some (d, rest) => some (BitVec.ofNat 8 (16 * a + b) :: d, rest)
      | _, _, _ => none

/-- A payload operand: text in quotes, or `x` and hexadecimal in quotes (rule R88). -/
def payloadOperand (cs : List Char) : Option (List Byte × List Char) :=
  match skipSpaces cs with
  | [] => none
  | c :: cs =>
    if c = quoteChar then textPayload cs
    else if c = 'x' ∧ cs.head? = some quoteChar then hexPayload (cs.drop 1)
    else none

/-- A decimal field (rule R88): its value and the text after it. -/
def decimalDigits : List Char → Nat → Nat × List Char
  | [], n => (n, [])
  | c :: cs, n => if c.isDigit then decimalDigits cs (10 * n + (c.toNat - 48)) else (n, c :: cs)

/-- A decimal operand below a bound, after spaces. -/
def decimalOperand (bound : Nat) (cs : List Char) : Option (Nat × List Char) :=
  match skipSpaces cs with
  | [] => none
  | c :: cs =>
    if c.isDigit then
      let (n, rest) := decimalDigits (c :: cs) 0
      if n < bound then some (n, rest) else none
    else none

/-- The text after a comma. -/
def afterComma (cs : List Char) : Option (List Char) :=
  match skipSpaces cs with
  | ',' :: rest => some rest
  | _ => none

/-- The operands of `ROUND`: three decimal fields (rules R82 to R84, R88). -/
def roundOperands (cs : List Char) : Option (List Instr × List Char) := do
  let (m, cs) ← decimalOperand 3 cs
  let cs ← afterComma cs
  let (rot, cs) ← decimalOperand 3 cs
  let cs ← afterComma cs
  let (w, cs) ← decimalOperand 8 cs
  some ([.round (BitVec.ofNat 2 m) (BitVec.ofNat 2 rot) (BitVec.ofNat 3 w)], cs)

/-- The operands of `PASS`: two decimal fields (rule R89). -/
def passOperands (cs : List Char) : Option (List Instr × List Char) := do
  let (m, cs) ← decimalOperand 3 cs
  let cs ← afterComma cs
  let (r0, cs) ← decimalOperand 3 cs
  some (passOps m r0, cs)

/-- The operand of `UPDATE`, or the one byte of `ABSORB`, or the payload of `HASH` (rules R88, R89). -/
def withPayload (cs : List Char) (f : List Byte → Option (List Instr)) : Option (List Instr × List Char) := do
  let (d, cs) ← payloadOperand cs
  let is ← f d
  some (is, cs)

/-- A mnemonic with the text of its operands: the instructions it stands for and the text after them (rules R88,
R89). -/
def statement (name cs : List Char) : Option (List Instr × List Char) :=
  if name = ['R', 'E', 'S', 'E', 'T'] then some ([.reset], cs)
  else if name = ['U', 'P', 'D', 'A', 'T', 'E'] then withPayload cs fun d => some [.update d]
  else if name = ['F', 'I', 'N', 'A', 'L', 'I', 'Z', 'E'] then some ([.finalize], cs)
  else if name = ['L', 'O', 'A', 'D', 'X'] then some ([.loadx], cs)
  else if name = ['S', 'A', 'V', 'E'] then some ([.save], cs)
  else if name = ['R', 'O', 'U', 'N', 'D'] then roundOperands cs
  else if name = ['K', 'E', 'Y', 'S', 'C', 'H', 'E', 'D'] then some ([.keysched], cs)
  else if name = ['F', 'E', 'E', 'D', 'F', 'W', 'D'] then some ([.feedfwd], cs)
  else if name = ['A', 'B', 'S', 'O', 'R', 'B'] then
    withPayload cs fun d => match d with
      | [b] => some (absorbCommand b)
      | _ => none
  else if name = ['H', 'A', 'S', 'H'] then withPayload cs fun d => some (hashCommands d)
  else if name = ['P', 'A', 'S', 'S'] then passOperands cs
  else if name = ['C', 'O', 'M', 'P', 'R', 'E', 'S', 'S'] then some (compressOps, cs)
  else none

/-- One line of a script: blank or comment, or one statement and then nothing more (rule R88). -/
def parseLine (line : List Char) : Option (List Instr) :=
  let cs := skipSpaces line
  let name := cs.takeWhile Char.isUpper
  let rest := cs.dropWhile Char.isUpper
  if name = [] then if lineEnds rest then some [] else none
  else
    match statement name rest with
    | some (is, rest) => if lineEnds rest then some is else none
    | none => none

/-- A text cut at its line ends. -/
def splitLines : List Char → List (List Char)
  | [] => [[]]
  | c :: cs =>
    match splitLines cs with
    | [] => [[c]]
    | l :: ls => if c = '\n' then [] :: l :: ls else (c :: l) :: ls

/-- The lines of a script, in order. -/
def assembleLines : List (List Char) → Option (List Instr)
  | [] => some []
  | l :: ls =>
    match parseLine l, assembleLines ls with
    | some a, some b => some (a ++ b)
    | _, _ => none

/-- A whole text: one statement a line (rule R88). DESIGN CHOICE (log entry 23): one text may hold command lines and
micro-operation lines in any mixture, read as one list; rule R88 describes command scripts and micro-programs as two
texts and does not say whether they may mix. -/
def assemble (script : List Char) : Option (List Instr) := assembleLines (splitLines script)

/-- The character of a hexadecimal digit. -/
def hexChar (n : Nat) : Char := if n < 10 then Char.ofNat (48 + n) else Char.ofNat (55 + n)

/-- A payload as hexadecimal byte pairs. -/
def hexText : List Byte → List Char
  | [] => []
  | b :: d => hexChar (b.toNat / 16) :: hexChar (b.toNat % 16) :: hexText d

/-- The text of an instruction (rule R88), payloads in hexadecimal. -/
def asmText : Instr → List Char
  | .reset => ['R', 'E', 'S', 'E', 'T']
  | .update d => ['U', 'P', 'D', 'A', 'T', 'E', ' ', 'x', quoteChar] ++ hexText d ++ [quoteChar]
  | .finalize => ['F', 'I', 'N', 'A', 'L', 'I', 'Z', 'E']
  | .loadx => ['L', 'O', 'A', 'D', 'X']
  | .save => ['S', 'A', 'V', 'E']
  | .round m rot w =>
    ['R', 'O', 'U', 'N', 'D', ' ', hexChar m.toNat, ',', ' ', hexChar rot.toNat, ',', ' ', hexChar w.toNat]
  | .keysched => ['K', 'E', 'Y', 'S', 'C', 'H', 'E', 'D']
  | .feedfwd => ['F', 'E', 'E', 'D', 'F', 'W', 'D']

end Sys2Proof.Machine
end

