-- ==== Sys2Proof/Safety.lean ====
section
/-!
DEFINITION. The terms claims are stated in: the message in the buffer, the compression of a string of blocks, the
padding of a message and its digest; the invariant of the engine; the relation between states that no command can
tell apart; when a step is refused; runs of commands.
-/
namespace Sys2Proof.Machine

/-! ## The message and its digest -/

/-- `buf[0..fill-1]`, the message bytes that wait in the buffer (rules R22, R25). -/
def State.tail (s : State) : List Byte := s.buf.toList.take s.fill.toNat

/-- The hash state after compressing the first `q` blocks of a string, in order (rules R139, R162). -/
def hashBlocks (sbox : Vector Word 1024) : Vector Word 3 → Nat → List Byte → Vector Word 3
  | h, 0, _ => h
  | h, q + 1, m => hashBlocks sbox (compressWords sbox h (blockOfList (m.take 64))) q (m.drop 64)

/-- `z`, the number of zero bytes of the padding for `f` bytes in the last block (rule R158). -/
def padZeros (f : Nat) : Nat := if f < 56 then 55 - f else 119 - f

/-- The padding of a message whose last, incomplete block has `f` bytes and whose bit count is `bits` (rule R158). -/
def padding (f : Nat) (bits : Word) : List Byte :=
  Config.terminator :: (List.replicate (padZeros f) 0 ++ le64 bits)

/-- `pad(m)` (rule R158). -/
def padded (m : List Byte) : List Byte := m ++ padding (m.length % 64) (BitVec.ofNat 64 (8 * m.length))

/-- `H_k`, the hash state after all the blocks of `pad(m)` from the IV (rule R162). -/
def tigerWords (sbox : Vector Word 1024) (m : List Byte) : Vector Word 3 :=
  hashBlocks sbox Config.iv ((padded m).length / 64) (padded m)

/-- `tiger(m)`, the digest of a message (rule R162). -/
def tiger (sbox : Vector Word 1024) (m : List Byte) : List Byte := digestBytes (tigerWords sbox m)

/-! ## Invariant and liveness of state -/

/-- The invariant of every step: while the engine absorbs, the length is one with a meaning and `fill` is `len mod 64`
(rules R24, R25); every response has 24 bytes (rule R90). -/
def State.Inv (s : State) : Prop :=
  (s.done = false → s.len.toNat ≤ Config.maxLen ∧ s.fill.toNat = s.len.toNat % 64) ∧
  ∀ r ∈ s.responses, r.length = 24

/-- The engine is ready for the next command of the stream: no reset asserted, no word under test, the sequencer idle
(rules R29, R195). -/
def State.Idle (s : State) : Prop := s.resetLine = false ∧ s.testWord = none ∧ s.seq = none

/-- The two states differ in dead parts only (rule R37): equal in everything that some command reads before it is
written. After `FINALIZE` no command reads `buf`, `fill` or `len` (rule R36). -/
def State.LiveEq (s t : State) : Prop :=
  s.h = t.h ∧ s.done = t.done ∧ s.sbox = t.sbox ∧
  (s.done = false → s.fill = t.fill ∧ s.len = t.len ∧ s.tail = t.tail)

/-- `seq <- seq + 1` inside the micro-program, from `s` to `t` (rules R29, R87). -/
def SeqPlusOne (s t : State) : Prop :=
  ∀ (k : Fin 29) (h : k.val < 28), s.seq = some k → t.seq = some ⟨k.val + 1, by omega⟩

/-! ## Commands, micro-operations and refusals -/

/-- The instruction is a host command (rule R75). -/
def isCommand : Instr → Bool
  | .reset => true
  | .update _ => true
  | .finalize => true
  | .loadx => false
  | .save => false
  | .round _ _ _ => false
  | .keysched => false
  | .feedfwd => false

/-- The refusal that rule R171 gives an instruction in a state, if any: `AfterFinalize` before `LengthOverflow`
(rule R173). -/
def refusalFor (s : State) : Instr → Option Refusal
  | .reset => none
  | .update d =>
    if s.done then some .afterFinalize
    else if Config.maxLen < s.len.toNat + d.length then some .lengthOverflow
    else none
  | .finalize => if s.done then some .afterFinalize else none
  | .loadx => none
  | .save => none
  | .round m rot _ => if m = 3 ∨ rot = 3 then some .reservedUop else none
  | .keysched => none
  | .feedfwd => none

/-- The instructions one after another, stopping at the first that does not answer a next state. -/
def execAll : List Instr → State → Host.Outcome State Fault Refusal
  | [], s => .next s
  | i :: is, s =>
    match exec i s with
    | .next t => execAll is t
    | .fault f => .fault f
    | .refused r => .refused r

/-- Two runs that started in `s` and in `t` gave the host the same answers, and end in states that no command can tell
apart: the same refusal, or the same responses after those that were there (rules R37, R160). -/
def SameAnswers (s t : State) (o p : Host.Outcome State Fault Refusal) : Prop :=
  (∃ r, o = .refused r ∧ p = .refused r) ∨
  ∃ s' t' rs, o = .next s' ∧ p = .next t' ∧ s'.LiveEq t' ∧
    s'.responses = s.responses ++ rs ∧ t'.responses = t.responses ++ rs

/-- A safe run of `k` steps: none of them stops (rule R171: a claim about a stream holds only for streams that are
never refused). -/
def SafeRun (k : Nat) (s : State) : Prop := ∃ t, Host.Core.run Sys2Proof.core k s = .next t

end Sys2Proof.Machine
end

