-- ==== Sys2Proof/Certificates/Slice0/Obligations.lean ====
section
/-!
DEFINITION. The statements for the provers, each with the rule of spec/ it formalises. "s" is any state, also one
that no run reaches, unless a hypothesis says otherwise.
-/

open Sys2Proof Sys2Proof.Machine

/-! ## Encoding -/

/-- Decode and encode agree (rules R76, R77, R79, R81): for every well-formed instruction, at every value its operands
can have, the decoder of its level reads the instruction back; a command is read from the front of any stream, and
the rest of the stream is left. -/
def Obligations.DecodeOfEncode : Prop :=
  ∀ (i : Instr) (rest : List Byte), i.wellFormed = true →
    match encode i with
    | .command bytes => isCommand i = true ∧ decodeCommand (bytes ++ rest) = .ok (i, rest)
    | .uop u => isCommand i = false ∧ decodeUop u = .ok i

/-- A control word that decodes is the encoding of what it decodes to, so no two words spell one micro-operation and
no bit of a word is ignored (rules R81, R85). -/
def Obligations.EncodeOfDecodedUop : Prop :=
  ∀ (u : BitVec 10) (i : Instr), decodeUop u = .ok i → i.wellFormed = true ∧ encode i = .uop u

/-- A stream whose first command decodes begins with the encoding of that command, and the rest of the stream is what
follows it (rules R77, R79). -/
def Obligations.EncodeOfDecodedCommand : Prop :=
  ∀ (s : List Byte) (i : Instr) (rest : List Byte), decodeCommand s = .ok (i, rest) →
    i.wellFormed = true ∧ ∃ bytes, encode i = .command bytes ∧ s = bytes ++ rest

/-- The reserved control words (rule R85): those with `op` 5 to 7, a `ROUND` word with `m = 3` or `rot = 3`, and any
other word with a bit of `u[6:0]` set are refused by name, and no others; 76 of the 1024 words are legal. -/
def Obligations.ReservedControlWords : Prop :=
  (∀ u : BitVec 10, decodeUop u = .error .reservedUop ↔
    (5 ≤ (u.extractLsb' 7 3).toNat ∨
      (u.extractLsb' 7 3 = 2 ∧ (u.extractLsb' 5 2 = 3 ∨ u.extractLsb' 3 2 = 3)) ∨
      (u.extractLsb' 7 3 ≠ 2 ∧ u.extractLsb' 0 7 ≠ 0))) ∧
  ((List.range 1024).filter fun n => (decodeUop (BitVec.ofNat 10 n)).isOk).length = 76 ∧
  ((List.range 1024).filter fun n => decide (decodeUop (BitVec.ofNat 10 n) = .error .reservedUop)).length = 948

/-- Words written out from the encoding tables (rules R76, R77, R81, R86) decode to what they stand for. -/
def Obligations.SampleWordsDecode : Prop :=
  decodeCommand [0x01] = .ok (.reset, []) ∧
  decodeCommand [0x03] = .ok (.finalize, []) ∧
  decodeCommand [0x02, 3, 0, 0, 0, 0, 0, 0, 0, 0x61, 0x62, 0x63] = .ok (.update [0x61, 0x62, 0x63], []) ∧
  decodeUop 0b0000000000#10 = .ok .loadx ∧
  decodeUop 0b0010000000#10 = .ok .save ∧
  decodeUop 0b0101000111#10 = .ok (.round 2 0 7) ∧
  decodeUop 0b0110000000#10 = .ok .keysched ∧
  decodeUop 0b1000000000#10 = .ok .feedfwd

/-- The 29 control words of the micro-program decode, in order, to LOADX ; SAVE ; PASS 0,0 ; KEYSCHED ; PASS 1,2 ;
KEYSCHED ; PASS 2,1 ; FEEDFWD (rules R86, R89). -/
def Obligations.MicroProgramDecodesToCompress : Prop :=
  microProgram.toList.map decodeUop = compressOps.map Except.ok

/-- The text of a well-formed instruction assembles to that instruction (rule R88). -/
def Obligations.AssembleOfText : Prop :=
  ∀ i : Instr, i.wellFormed = true → assemble (asmText i) = some [i]

/-! ## What a step does -/

/-- An idle engine whose stream begins with a command performs that command on the state with its bytes taken (rules
R79, R195). -/
def Obligations.StepRunsTheCommand : Prop :=
  ∀ (s : State) (i : Instr) (rest : List Byte), s.Idle → s.input ≠ [] → decodeCommand s.input = .ok (i, rest) →
    step s = exec i { s with input := rest }

/-- A running sequencer performs the micro-program word it selects (rules R29, R86). -/
def Obligations.StepRunsTheMicroOperation : Prop :=
  ∀ (s : State) (k : Fin 29) (i : Instr), s.resetLine = false → s.testWord = none → s.seq = some k →
    decodeUop microProgram[k] = .ok i → step s = exec i s

/-- The model's own test port (log entry 13): a legal control word under test is performed for one step. -/
def Obligations.StepRunsTheWordUnderTest : Prop :=
  ∀ (s : State) (u : BitVec 10) (i : Instr), s.resetLine = false → s.testWord = some u → decodeUop u = .ok i →
    step s = exec i { s with testWord := none }

/-- An idle engine with nothing sent stays as it is (rule R198). -/
def Obligations.StepWaitsForACommand : Prop :=
  ∀ s : State, s.Idle → s.input = [] → step s = .next s

/-- The model's own placement: the instruction that `decodeTableWord` reads, placed by `State.withFetchWord` where the
next fetch takes it, is what the next step performs, on a state that differs from the given one only in where it was
placed. How the table's numbers reach the decoders (log entry 19), the two places (log entry 10 for the stream, 13 for
the test port) and the order in which a step looks at them (log entry 24) are the model's choices; the rules give only
the encodings that are placed (rules R75, R79, R81). -/
def Obligations.PlacedWordRuns : Prop :=
  ∀ (s : State) (nbits w : Nat) (i : Instr), decodeTableWord nbits w = some i →
    ∃ s', step (s.withFetchWord nbits w) = exec i s' ∧
      { s' with resetLine := s.resetLine, testWord := s.testWord, seq := s.seq, input := s.input } = s

/-- A first byte that is no opcode is refused by name, whatever follows it (rule R80). -/
def Obligations.ReservedOpcodeRefused : Prop :=
  ∀ (s : State) (op : Byte) (rest : List Byte), s.Idle → s.input = op :: rest →
    op ≠ 0x01#8 → op ≠ 0x02#8 → op ≠ 0x03#8 → step s = .refused .reservedOpcode

/-- A stream that ends inside an UPDATE, in its header or in its payload, is refused by name (rule R79). -/
def Obligations.TruncatedUpdateRefused : Prop :=
  ∀ (s : State) (rest : List Byte), s.Idle → s.input = 0x02#8 :: rest →
    (rest.length < 8 ∨ (rest.drop 8).length < leNat (rest.take 8)) → step s = .refused .truncatedCommand

/-- A step refuses exactly in the cases of rule R171 and in no other: a reserved word under test, a command that does
not decode, or a decoded command that is refused in this state, by the first condition in the order of rule R173. The
micro-program never refuses. -/
def Obligations.StepRefusesExactlyWhen : Prop :=
  ∀ (s : State) (r : Refusal),
    step s = .refused r ↔
      (s.resetLine = false ∧ ∃ u, s.testWord = some u ∧ decodeUop u = .error .reservedUop ∧ r = .reservedUop) ∨
      (s.Idle ∧ s.input ≠ [] ∧ ∃ e, decodeCommand s.input = .error e ∧ r = refusalOf e) ∨
      (s.Idle ∧ s.input ≠ [] ∧ ∃ i rest, decodeCommand s.input = .ok (i, rest) ∧ refusalFor s i = some r)

/-- An instruction completes in every state and with every operand for which rule R171 names no refusal, and is
refused with that refusal otherwise. -/
def Obligations.ExecCompletesOrRefuses : Prop :=
  ∀ (i : Instr) (s : State),
    match refusalFor s i with
    | none => ∃ t, exec i s = .next t
    | some r => exec i s = .refused r

/-! ## Reset -/

/-- The state right after creation, as far as the spec fixes it (rules R32, R191): the IV, an empty buffer, no
length, not finalized, an idle sequencer. -/
def Obligations.CreationLeavesTheInitialCondition : Prop :=
  State.reset.h = #v[0x0123456789ABCDEF, 0xFEDCBA9876543210, 0xF096A5B4C3B2E187] ∧
  State.reset.fill = 0 ∧ State.reset.len = 0 ∧ State.reset.done = false ∧ State.reset.seq = none

/-- RESET completes in every state and writes H, fill, len and done, and nothing else (rule R159). -/
def Obligations.ResetRestoresTheInitialCondition : Prop :=
  encode .reset = .command [0x01#8] ∧
  ∀ s : State, exec .reset s =
    .next { s with h := #v[0x0123456789ABCDEF, 0xFEDCBA9876543210, 0xF096A5B4C3B2E187], fill := 0, len := 0,
                   done := false }

/-- An asserted hardware reset completes at the next step, whatever the engine was doing (also in the middle of a
COMPRESS): the reset values, an idle sequencer, SBOX untouched; the model keeps the stream and the delivered responses
(log entry 12). -/
def Obligations.HardwareResetAbandons : Prop :=
  ∀ s : State, s.resetLine = true →
    ∃ t, step s = .next t ∧
      t.h = #v[0x0123456789ABCDEF, 0xFEDCBA9876543210, 0xF096A5B4C3B2E187] ∧ t.fill = 0 ∧ t.len = 0 ∧
      t.done = false ∧ t.seq = none ∧ t.sbox = s.sbox ∧ t.Idle ∧ t.input = s.input ∧ t.responses = s.responses

/-! ## Micro-operations -/

/-- LOADX completes in every state (rule R101): X[j] is the little-endian word of bytes 8j to 8j+7 of the current
block source, the buffer or a payload chunk; seq advances; nothing else changes. -/
def Obligations.LoadxLoadsLittleEndianWords : Prop :=
  encode .loadx = .uop 0b0000000000#10 ∧
  ∀ s : State, ∃ t, exec .loadx s = .next t ∧
    (s.source = .buffer → ∀ j : Fin 8, t.x[j] = le64dec ((s.buf.toList.drop (8 * j.val)).take 8)) ∧
    (∀ chunk : Block, s.source = .payload chunk →
      ∀ j : Fin 8, t.x[j] = le64dec ((chunk.toList.drop (8 * j.val)).take 8)) ∧
    SeqPlusOne s t ∧ { t with x := s.x, seq := s.seq, fresh := s.fresh } = s

/-- SAVE completes in every state (rule R102): S is H; seq advances; nothing else changes. -/
def Obligations.SaveKeepsTheHashState : Prop :=
  encode .save = .uop 0b0010000000#10 ∧
  ∀ s : State, ∃ t, exec .save s = .next t ∧
    t.saved[0] = s.h[0] ∧ t.saved[1] = s.h[1] ∧ t.saved[2] = s.h[2] ∧
    SeqPlusOne s t ∧ { t with saved := s.saved, seq := s.seq, fresh := s.fresh } = s

/-- ROUND completes for every legal m and rot, every w and every state (rule R103): with ia, ib, ic the registers of
the a-role, b-role and c-role, the c-role is XORed with the block word; bytes 0, 2, 4, 6 of the NEW c-role word index
groups 0 to 3 and are subtracted from the a-role; bytes 1, 3, 5, 7 index groups 3 to 0 and are added to the b-role,
which is then multiplied by 5 + 2m; seq advances; nothing else changes. -/
def Obligations.RoundMixesTheHashState : Prop :=
  ∀ (m rot : BitVec 2) (w : BitVec 3) (ia ib ic : Fin 3) (s : State), m ≠ 3 → rot ≠ 3 →
    ia.val = rot.toNat → ib.val = (rot.toNat + 1) % 3 → ic.val = (rot.toNat + 2) % 3 →
    encode (.round m rot w) = .uop (0b010#3 ++ m ++ rot ++ w) ∧
    ∃ t, exec (.round m rot w) s = .next t ∧
      t.h[ic] = s.h[ic] ^^^ s.x[w.toFin] ∧
      t.h[ia] = s.h[ia] -
        (romRead s.sbox 0 (byteOf 0 t.h[ic]) ^^^ romRead s.sbox 1 (byteOf 2 t.h[ic]) ^^^
         romRead s.sbox 2 (byteOf 4 t.h[ic]) ^^^ romRead s.sbox 3 (byteOf 6 t.h[ic])) ∧
      t.h[ib] = (s.h[ib] +
        (romRead s.sbox 3 (byteOf 1 t.h[ic]) ^^^ romRead s.sbox 2 (byteOf 3 t.h[ic]) ^^^
         romRead s.sbox 1 (byteOf 5 t.h[ic]) ^^^ romRead s.sbox 0 (byteOf 7 t.h[ic]))) *
        BitVec.ofNat 64 (5 + 2 * m.toNat) ∧
      SeqPlusOne s t ∧ { t with h := s.h, seq := s.seq, fresh := s.fresh } = s

/-- A table lookup reads word 256*g + i (rules R51, R71). -/
def Obligations.RomReadAddressing : Prop :=
  ∀ (sbox : Vector Word 1024) (g : Fin 4) (i : Byte),
    some (romRead sbox g i) = sbox.toList[256 * g.val + i.toNat]?

/-- ROUND with m = 3 or rot = 3 is refused by name (rules R85, R171). -/
def Obligations.RoundWithReservedFieldRefused : Prop :=
  ∀ (m rot : BitVec 2) (w : BitVec 3) (s : State), m = 3 ∨ rot = 3 →
    exec (.round m rot w) s = .refused .reservedUop

/-- KEYSCHED completes in every state (rule R121). The sixteen lines in order, `y` the value that a word has after its
first assignment and `z` after its second: complement first, then the shift (19 left, 23 right and logical), then the
exclusive or, then the subtraction; seq advances; nothing else changes. -/
def Obligations.KeyschedSixteenLines : Prop :=
  encode .keysched = .uop 0b0110000000#10 ∧
  ∀ s : State, ∃ t, exec .keysched s = .next t ∧
    (∃ y0 y1 y2 y3 y4 y5 y6 y7 : Word,
      y0 = s.x[0] - (s.x[7] ^^^ 0xA5A5A5A5A5A5A5A5) ∧
      y1 = s.x[1] ^^^ y0 ∧
      y2 = s.x[2] + y1 ∧
      y3 = s.x[3] - (y2 ^^^ ((~~~y1) <<< 19)) ∧
      y4 = s.x[4] ^^^ y3 ∧
      y5 = s.x[5] + y4 ∧
      y6 = s.x[6] - (y5 ^^^ ((~~~y4) >>> 23)) ∧
      y7 = s.x[7] ^^^ y6 ∧
      t.x[0] = y0 + y7 ∧
      t.x[1] = y1 - (t.x[0] ^^^ ((~~~y7) <<< 19)) ∧
      t.x[2] = y2 ^^^ t.x[1] ∧
      t.x[3] = y3 + t.x[2] ∧
      t.x[4] = y4 - (t.x[3] ^^^ ((~~~t.x[2]) >>> 23)) ∧
      t.x[5] = y5 ^^^ t.x[4] ∧
      t.x[6] = y6 + t.x[5] ∧
      t.x[7] = y7 - (t.x[6] ^^^ 0x0123456789ABCDEF)) ∧
    SeqPlusOne s t ∧ { t with x := s.x, seq := s.seq, fresh := s.fresh } = s

/-- The key schedule loses nothing: the sixteen lines are invertible as a map on eight words (rule R124). -/
def Obligations.KeyScheduleIsBijective : Prop := Function.Bijective keySchedule

/-- FEEDFWD completes in every state (rule R106): a is XORed, b subtracted from, c added to, whatever the roles of the
last round; seq is idle; nothing else changes. -/
def Obligations.FeedfwdCombines : Prop :=
  encode .feedfwd = .uop 0b1000000000#10 ∧
  ∀ s : State, ∃ t, exec .feedfwd s = .next t ∧
    t.h[0] = s.h[0] ^^^ s.saved[0] ∧ t.h[1] = s.h[1] - s.saved[1] ∧ t.h[2] = s.h[2] + s.saved[2] ∧
    t.seq = none ∧ { t with h := s.h, seq := s.seq } = s

/-- A micro-operation that completes leaves buf, fill, len, done and SBOX alone (rules R33, R100), and with them
everything the host can see or has sent. -/
def Obligations.MicroOperationFrame : Prop :=
  ∀ (i : Instr) (s t : State), isCommand i = false → exec i s = .next t →
    (∀ a : Nat, (_ : a < 64) → t.buf[a] = s.buf[a]) ∧ t.fill = s.fill ∧ t.len = s.len ∧ t.done = s.done ∧
    t.sbox = s.sbox ∧ t.source = s.source ∧ t.input = s.input ∧ t.responses = s.responses ∧
    t.resetLine = s.resetLine ∧ t.testWord = s.testWord

/-- A running sequencer never stalls and never refuses: each step performs the micro-operation it selects and moves it
by one, from 0 to 28 and then to idle (rules R29, R87), whatever H, X and SBOX hold. -/
def Obligations.SequencerCounts : Prop :=
  ∀ (s : State) (k : Fin 29), s.resetLine = false → s.testWord = none → s.seq = some k →
    ∃ i t, decodeUop microProgram[k] = .ok i ∧ exec i s = .next t ∧ step s = .next t ∧
      t.seq = (if h : k.val < 28 then some ⟨k.val + 1, by omega⟩ else none) ∧
      t.resetLine = false ∧ t.testWord = none

/-- The model's own conventions (log entries 8 and 9) for a micro-operation, other than `FEEDFWD`, performed outside
the micro-program: at 28 the sequencer goes idle; from idle it takes a free value, whatever that is. -/
def Obligations.SequencerOutsideTheMicroProgram : Prop :=
  ∀ (i : Instr) (s t : State), isCommand i = false → i ≠ .feedfwd → exec i s = .next t →
    (s.seq = some 28 → t.seq = none) ∧ (s.seq = none → t.seq = Config.freeSeq s.fresh ∧ t.fresh = s.fresh + 1)

/-- THE TWO LEVELS AGREE (rules R12, R86, R105): from seq = 0 with any block source, 29 steps of the sequencer through
the table of control words leave in H exactly compress(H, block), an idle sequencer, and change nothing but H and the
scratch registers X and S. -/
def Obligations.MicroProgramComputesCompress : Prop :=
  ∀ (s : State) (b : BlockSource), s.resetLine = false → s.testWord = none →
    ∃ t, Host.Core.run Sys2Proof.core 29 (s.beginCompress b) = .next t ∧
      t.h = compressWords s.sbox s.h (blockOf b s.buf) ∧ t.seq = none ∧
      { t with h := s.h, x := s.x, saved := s.saved, seq := s.seq, source := s.source } = s

/-! ## UPDATE -/

/-- The closed form of UPDATE (rule R139), for every state with done = 0 and a total length with a meaning: with
str = buf[0..fill-1] ++ d, the command compresses the floor((fill + n)/64) whole blocks of str in order, keeps the
rest in the buffer, and counts the new bytes. -/
def Obligations.UpdateClosedForm : Prop :=
  ∀ (d : List Byte) (s : State), s.done = false → s.len.toNat + d.length ≤ 2 ^ 61 - 1 →
    ∃ t, exec (.update d) s = .next t ∧
      t.h = hashBlocks s.sbox s.h ((s.fill.toNat + d.length) / 64) (s.tail ++ d) ∧
      t.fill.toNat = (s.fill.toNat + d.length) % 64 ∧
      t.len.toNat = s.len.toNat + d.length ∧
      t.tail = (s.tail ++ d).drop (64 * ((s.fill.toNat + d.length) / 64)) ∧
      t.done = false

/-- Length accounting (rule R135): the three phases take n bytes between them and len grows by exactly n. -/
def Obligations.UpdateCountsEveryByteOnce : Prop :=
  ∀ (d : List Byte) (s : State), s.done = false → s.len.toNat + d.length ≤ 2 ^ 61 - 1 →
    topUpCount s.fill d.length + 64 * chunkCount s.fill d.length + leftoverCount s.fill d.length = d.length ∧
    ∃ t, exec (.update d) s = .next t ∧ t.len.toNat = s.len.toNat + d.length

/-- The frame of UPDATE (rule R33): done, SBOX, the stream, the responses and the inputs are unchanged; every byte of
buf outside the bytes it stores in phases 1 and 3 is unchanged, phase 2 storing none (rule R132); and if no block is
completed, so are H, X, S, seq and the rest; after a block the sequencer is idle. That the dead bytes of buf among them
keep their value is the model's DEDUCED assumption (log entry 16): rules R22 and R37 say that they hold no defined
value, and no command can show them. -/
def Obligations.UpdateFrame : Prop :=
  ∀ (d : List Byte) (s : State), s.done = false → s.len.toNat + d.length ≤ 2 ^ 61 - 1 →
    ∃ t, exec (.update d) s = .next t ∧
      t.done = s.done ∧ t.sbox = s.sbox ∧ t.input = s.input ∧ t.responses = s.responses ∧
      t.resetLine = s.resetLine ∧ t.testWord = s.testWord ∧
      (∀ a : Nat, (_ : a < 64) → ¬ updateStores s.fill d.length a → t.buf[a] = s.buf[a]) ∧
      (s.fill.toNat + d.length < 64 →
        { t with buf := s.buf, fill := s.fill, len := s.len } = s) ∧
      (64 ≤ s.fill.toNat + d.length → t.seq = none)

/-- The bytes UPDATE stores (rules R131, R133), when it completes no block: the payload at fill, fill + 1, ... -/
def Obligations.ShortUpdateAppendsAtFill : Prop :=
  ∀ (d : List Byte) (s : State), s.done = false → s.len.toNat + d.length ≤ 2 ^ 61 - 1 →
    s.fill.toNat + d.length < 64 →
    ∃ t, exec (.update d) s = .next t ∧ t.fill.toNat = s.fill.toNat + d.length ∧
      ∀ k : Nat, (hk : k < d.length) → t.buf.toList[s.fill.toNat + k]? = some d[k]

/-- UPDATE of nothing is the identity on the whole state (rule R136). The hypothesis on len is part of the invariant
of every step. -/
def Obligations.EmptyUpdateIsIdentity : Prop :=
  ∀ s : State, s.done = false → s.len.toNat ≤ 2 ^ 61 - 1 → exec (.update []) s = .next s

/-- UPDATE is refused after FINALIZE, and otherwise when the total length would pass MAXLEN (rules R134, R171,
R173). -/
def Obligations.UpdateGuards : Prop :=
  (∀ (d : List Byte) (s : State), s.done = true → exec (.update d) s = .refused .afterFinalize) ∧
  (∀ (d : List Byte) (s : State), s.done = false → 2 ^ 61 - 1 < s.len.toNat + d.length →
    exec (.update d) s = .refused .lengthOverflow)

/-- Chunk invariance (rule R137): for every partition of a message into chunks, the updates of the chunks and the one
update of the whole lead from any state with done = 0 to states that agree on H, fill, len and buf[0..fill-1], and
FINALIZE answers the same after either. -/
def Obligations.ChunkInvariance : Prop :=
  ∀ (ds : List (List Byte)) (s : State), s.done = false → s.len.toNat + ds.flatten.length ≤ 2 ^ 61 - 1 →
    ∃ t u t' u', execAll (ds.map Instr.update) s = .next t ∧ exec (.update ds.flatten) s = .next u ∧
      t.h = u.h ∧ t.fill = u.fill ∧ t.len = u.len ∧ t.tail = u.tail ∧
      exec .finalize t = .next t' ∧ exec .finalize u = .next u' ∧
      ∃ r, t'.responses = s.responses ++ [r] ∧ u'.responses = s.responses ++ [r]

/-- One ABSORB (rule R138): the byte goes to buf[fill], len grows by one; at fill = 63 the buffer is compressed and
fill becomes 0, else fill grows by one. -/
def Obligations.AbsorbOneByte : Prop :=
  ∀ (b : Byte) (s : State), s.done = false → s.len.toNat + 1 ≤ 2 ^ 61 - 1 →
    ∃ t, exec (.update [b]) s = .next t ∧
      t.buf = s.buf.set s.fill.toNat b s.fill.isLt ∧ t.len = s.len + 1 ∧
      (s.fill = 63 → t.h = compressWords s.sbox s.h t.buf ∧ t.fill = 0) ∧
      (s.fill ≠ 63 → t.h = s.h ∧ t.fill = s.fill + 1)

/-- The byte-serial form (rule R138): UPDATE d and the sequence of one-byte updates agree on H, fill, len and
buf[0..fill-1]. -/
def Obligations.UpdateIsByteSerial : Prop :=
  ∀ (d : List Byte) (s : State), s.done = false → s.len.toNat + d.length ≤ 2 ^ 61 - 1 →
    ∃ t u, execAll (d.flatMap absorbCommand) s = .next t ∧ exec (.update d) s = .next u ∧
      t.h = u.h ∧ t.fill = u.fill ∧ t.len = u.len ∧ t.tail = u.tail

/-- The message so far (rule R139, second half): after RESET in any state and any sequence of updates whose payloads
concatenate to m, len = |m|, fill = |m| mod 64, H is the compression of the whole blocks of m from the IV, and the
rest of m waits in the buffer. -/
def Obligations.UpdatesAbsorbTheMessage : Prop :=
  ∀ (ds : List (List Byte)) (s : State), ds.flatten.length ≤ 2 ^ 61 - 1 →
    ∃ t, execAll (.reset :: ds.map Instr.update) s = .next t ∧
      t.len.toNat = ds.flatten.length ∧ t.fill.toNat = ds.flatten.length % 64 ∧
      t.h = hashBlocks s.sbox #v[0x0123456789ABCDEF, 0xFEDCBA9876543210, 0xF096A5B4C3B2E187]
        (ds.flatten.length / 64) ds.flatten ∧
      t.tail = ds.flatten.drop (64 * (ds.flatten.length / 64)) ∧ t.done = false

/-! ## FINALIZE -/

/-- FINALIZE completes in every state with done = 0 (rules R151 to R156): one block if fill < 56, else two, of the
waiting tail, the terminator 0x01, zeros and the little-endian bit length len * 8; the digest words stay in H, the
response is their serialisation, done is set. Everything but H, the scratch, buf, fill and len is unchanged. -/
def Obligations.FinalizePadsAndAnswers : Prop :=
  encode .finalize = .command [0x03#8] ∧
  ∀ s : State, s.done = false →
    ∃ t, exec .finalize s = .next t ∧
      (s.fill.toNat < 56 → t.h = hashBlocks s.sbox s.h 1
        (s.tail ++ [0x01#8] ++ List.replicate (55 - s.fill.toNat) 0 ++ le64 (s.len * 8))) ∧
      (56 ≤ s.fill.toNat → t.h = hashBlocks s.sbox s.h 2
        (s.tail ++ [0x01#8] ++ List.replicate (119 - s.fill.toNat) 0 ++ le64 (s.len * 8))) ∧
      t.responses = s.responses ++ [le64 t.h[0] ++ le64 t.h[1] ++ le64 t.h[2]] ∧
      t.done = true ∧ t.seq = none ∧ t.sbox = s.sbox ∧ t.input = s.input ∧
      t.resetLine = s.resetLine ∧ t.testWord = s.testWord

/-- FINALIZE after FINALIZE is refused (rules R163, R171). -/
def Obligations.FinalizeRefusedAfterFinalize : Prop :=
  ∀ s : State, s.done = true → exec .finalize s = .refused .afterFinalize

/-- The response layout (rule R63): FINALIZE answers, in every state with done = 0, 24 bytes, byte i being byte
i mod 8 of word i/8 of H. -/
def Obligations.DigestLayout : Prop :=
  ∀ s : State, s.done = false →
    ∃ t r, exec .finalize s = .next t ∧ t.responses = s.responses ++ [r] ∧
      r = le64 t.h[0] ++ le64 t.h[1] ++ le64 t.h[2] ∧ r.length = 24 ∧
      ∀ (j : Fin 3) (k : Fin 8), r[8 * j.val + k.val]? = some (byteOf k.val t.h[j])

/-- The padding of a message (rule R158): pad(m) is a whole number of blocks, |m|/64 + 1 of them when |m| mod 64 < 56
and |m|/64 + 2 otherwise, and no smaller number of zeros would do. -/
def Obligations.PaddingIsMinimal : Prop :=
  ∀ m : List Byte,
    (padded m).length = 64 * (m.length / 64 + (if m.length % 64 < 56 then 1 else 2)) ∧
    ∀ z < padZeros (m.length % 64), (m.length + 1 + z + 8) % 64 ≠ 0

/-- THE WHOLE-MESSAGE FUNCTION (rule R162): RESET, any sequence of updates whose payloads concatenate to m, FINALIZE
completes from every state and answers tiger(m), the serialised compression of the blocks of pad(m) from the IV. -/
def Obligations.WholeMessageDigest : Prop :=
  ∀ (ds : List (List Byte)) (s : State), ds.flatten.length ≤ 2 ^ 61 - 1 →
    ∃ t, execAll (.reset :: (ds.map Instr.update ++ [.finalize])) s = .next t ∧
      t.responses = s.responses ++ [tiger s.sbox ds.flatten] ∧ t.h = tigerWords s.sbox ds.flatten

/-! ## The whole machine -/

/-- Every step keeps the invariant (rules R24, R25, R90), also from states that no run reaches: while absorbing, len
is at most MAXLEN and fill = len mod 64; every response has 24 bytes. -/
def Obligations.StepKeepsInvariant : Prop :=
  ∀ s t : State, s.Inv → step s = .next t → t.Inv

/-- The state right after creation meets the invariant. -/
def Obligations.CreationMeetsInvariant : Prop := State.reset.Inv

/-- done is cleared only by RESET (and by a hardware reset), set only by FINALIZE, and changed by nothing else (rules
R26, R35). -/
def Obligations.DoneLifeCycle : Prop :=
  ∀ (i : Instr) (s t : State), exec i s = .next t →
    t.done = (if i = .reset then false else if i = .finalize then true else s.done)

/-- Responses (rule R90): FINALIZE answers exactly 24 bytes, the digest, whenever it has a meaning; no other instruction
answers anything. -/
def Obligations.OnlyFinalizeAnswers : Prop :=
  (∀ s : State, s.done = false → ∃ t r, exec .finalize s = .next t ∧ t.responses = s.responses ++ [r] ∧
    r.length = 24 ∧ r = le64 t.h[0] ++ le64 t.h[1] ++ le64 t.h[2]) ∧
  ∀ (i : Instr) (s t : State), i ≠ .finalize → exec i s = .next t → t.responses = s.responses

/-- No step writes SBOX (rules R30, R61). -/
def Obligations.RomIsNeverWritten : Prop :=
  ∀ s t : State, step s = .next t → t.sbox = s.sbox

/-- A command that starts with an idle sequencer ends with an idle one (rule R29), takes no bytes of the stream
itself, and presents no word under test. -/
def Obligations.CommandsLeaveTheSequencerIdle : Prop :=
  ∀ (i : Instr) (s t : State), isCommand i = true → s.Idle → exec i s = .next t → t.Idle ∧ t.input = s.input

/-- How many compressions a command runs depends on fill and the payload's length alone (rules R91, R140, R158): the
draws of the model's counter `fresh` (log entries 5, 6, 7) count them, with one more draw at the end of FINALIZE. -/
def Obligations.CompressionCounts : Prop :=
  (∀ (d : List Byte) (s : State), s.done = false → s.len.toNat + d.length ≤ 2 ^ 61 - 1 →
    ∃ t, exec (.update d) s = .next t ∧ t.fresh = s.fresh + (s.fill.toNat + d.length) / 64) ∧
  (∀ s : State, s.done = false →
    ∃ t, exec .finalize s = .next t ∧ t.fresh = s.fresh + (if s.fill.toNat < 56 then 1 else 2) + 1)

/-- DEAD STATE IS INVISIBLE (rule R37): two states that agree on H, SBOX, done and, while absorbing, on fill, len and
buf[0..fill-1] give the host the same answers to every sequence of commands, whatever else they hold (the bytes of buf
beyond fill, X, S, what FINALIZE left). -/
def Obligations.DeadStateIsInvisible : Prop :=
  ∀ (is : List Instr) (s t : State), is.all isCommand = true → s.LiveEq t →
    SameAnswers s t (execAll is s) (execAll is t)

/-- Reset equivalence (rule R160): after RESET in any state, every sequence of commands gives the same answers as on
a new instance with the same table. -/
def Obligations.ResetEquivalence : Prop :=
  ∀ (is : List Instr) (s : State), is.all isCommand = true →
    ∃ t, exec .reset s = .next t ∧
      SameAnswers t { State.reset with sbox := s.sbox } (execAll is t)
        (execAll is { State.reset with sbox := s.sbox })
end

