-- ==== Sys2Proof/Laws/Bits.lean ====
section
/-!
SUPPORT. The laws of the little-endian conversions (rule R10), of buffer writes (rule R52) and of the word view of a
block (rules R52, R54).
-/
namespace Sys2Proof.Machine

@[simp] theorem le64_length (v : Word) : (le64 v).length = 8 := rfl

@[simp] theorem digestBytes_length (h : Vector Word 3) : (digestBytes h).length = 24 := rfl

theorem byteOf_toNat (k : Nat) (v : Word) : (byteOf k v).toNat = v.toNat / 2 ^ (8 * k) % 256 := by
  simp [byteOf, BitVec.extractLsb'_toNat, Nat.shiftRight_eq_div_pow]

theorem leNat_lt (s : List Byte) : leNat s < 256 ^ s.length := by
  induction s with
  | nil => simp [leNat]
  | cons b s ih =>
    have := b.isLt
    simp only [leNat, List.length_cons, Nat.pow_succ]
    omega

/-- `LE64` spells its word (rule R10). -/
@[simp] theorem leNat_le64 (v : Word) : leNat (le64 v) = v.toNat := by
  have := v.isLt
  simp only [le64, leNat, byteOf_toNat]
  omega

/-- `LE64dec(LE64(v)) = v` (rule R10). -/
@[simp] theorem le64dec_le64 (v : Word) : le64dec (le64 v) = v := by
  simp [le64dec]

/-- Byte `k` of a decoded string is its byte `k` (rule R10). -/
theorem byteOf_le64dec (s : List Byte) (k : Nat) (hs : s.length ≤ 8) (hk : k < s.length) :
    byteOf k (le64dec s) = s[k] := by
  have key : ∀ (s : List Byte) (k : Nat) (hk : k < s.length), leNat s / 2 ^ (8 * k) % 256 = s[k].toNat := by
    intro s
    induction s with
    | nil => intro k hk; simp at hk
    | cons b s ih =>
      intro k hk
      have hb := b.isLt
      cases k with
      | zero => simp [leNat]; omega
      | succ k =>
        have e : 2 ^ (8 * (k + 1)) = 256 * 2 ^ (8 * k) := by rw [Nat.mul_succ, Nat.pow_add]; omega
        have d : (b.toNat + 256 * leNat s) / 256 = leNat s := by omega
        rw [leNat, e, ← Nat.div_div_eq_div_mul, d, List.getElem_cons_succ]
        exact ih k _
  apply BitVec.eq_of_toNat_eq
  have h64 : leNat s < 2 ^ 64 :=
    Nat.lt_of_lt_of_le (leNat_lt s) (by
      calc 256 ^ s.length ≤ 256 ^ 8 := Nat.pow_le_pow_right (by omega) hs
        _ = 2 ^ 64 := by norm_num)
  rw [byteOf_toNat, le64dec, BitVec.toNat_ofNat, Nat.mod_eq_of_lt h64]
  exact key s k hk

/-- `LE64(v)` lists `byte_k(v)` for `k` from 0 to 7 (rule R10). -/
theorem le64_eq_map (v : Word) : le64 v = (List.range 8).map fun k => byteOf k v := rfl

/-- Byte `k` of `LE64(v)` is `byte_k(v)` (rule R10). -/
theorem le64_getElem (v : Word) (k : Nat) (hk : k < (le64 v).length) : (le64 v)[k] = byteOf k v := by
  simp [le64_eq_map]

/-- `LE64(LE64dec(s)) = s` for an eight-byte string (rule R10). -/
theorem le64_le64dec (s : List Byte) (h : s.length = 8) : le64 (le64dec s) = s := by
  apply List.ext_getElem
  · rw [le64_length, h]
  · intro k h1 h2
    rw [le64_getElem, byteOf_le64dec _ _ (by omega) h2]

/-- A byte of the buffer after consecutive writes: the byte written there, or the old one (rule R52). -/
theorem writeBytes_getElem (b : Block) (a : Nat) (vs : List Byte) (i : Nat) (hi : i < 64) :
    (writeBytes b a vs)[i] = if h : a ≤ i ∧ i < a + vs.length then vs[i - a] else b[i] := by
  induction vs generalizing b a with
  | nil => simp [writeBytes]
  | cons v vs ih =>
    rw [writeBytes, ih]
    by_cases h1 : a + 1 ≤ i ∧ i < a + 1 + vs.length
    · have h2 : a ≤ i ∧ i < a + (v :: vs).length := by simp only [List.length_cons]; omega
      have e : i - a = (i - (a + 1)) + 1 := by omega
      simp only [dif_pos h1, dif_pos h2, e, List.getElem_cons_succ]
    · by_cases h2 : a ≤ i ∧ i < a + (v :: vs).length
      · have e : i = a := by simp only [List.length_cons] at h2; omega
        subst e
        simp
      · have e : a ≠ i := by simp only [List.length_cons] at h2; omega
        simp only [dif_neg h1, dif_neg h2]
        exact Vector.getElem_setIfInBounds_ne hi e

/-- A buffer as a string after consecutive writes that stay inside it (rule R52). -/
theorem writeBytes_toList (b : Block) (a : Nat) (vs : List Byte) (h : a + vs.length ≤ 64) :
    (writeBytes b a vs).toList = b.toList.take a ++ vs ++ b.toList.drop (a + vs.length) := by
  apply List.ext_getElem
  · simp; omega
  · intro i h1 h2
    have hi : i < 64 := by simpa using h1
    have e : (writeBytes b a vs).toList[i] = (writeBytes b a vs)[i] := by simp
    rw [e, writeBytes_getElem _ _ _ _ hi]
    split
    · rename_i h
      rw [List.getElem_append_left (by simp; omega), List.getElem_append_right (by simp; omega)]
      congr 1
      simp
      omega
    · rename_i h'
      by_cases hl : i < a
      · rw [List.getElem_append_left (by simp; omega), List.getElem_append_left (by simp; omega)]
        simp
      · rw [List.getElem_append_right (by simp; omega)]
        simp only [List.getElem_drop, Vector.getElem_toList]
        congr 1
        simp
        omega

/-- The bytes of a block made of a string of at least 64 bytes. -/
theorem blockOfList_toList (l : List Byte) (h : 64 ≤ l.length) : (blockOfList l).toList = l.take 64 := by
  apply List.ext_getElem
  · simp; omega
  · intro i h1 h2
    have hi : i < 64 := by simpa using h1
    have hl : i < l.length := by omega
    simp [blockOfList, List.getElem?_eq_getElem hl]

/-- A block is the block of its own bytes. -/
@[simp] theorem blockOfList_of_toList (b : Block) : blockOfList b.toList = b := by
  apply Vector.ext
  intro i hi
  simp [blockOfList]

/-- Only the first 64 bytes of a string make its block. -/
theorem blockOfList_take (l : List Byte) (h : 64 ≤ l.length) : blockOfList (l.take 64) = blockOfList l := by
  rw [← blockOfList_toList l h, blockOfList_of_toList]

/-- Eight consecutive bytes of a string, one by one. -/
theorem take_eight_drop (l : List Byte) (n : Nat) (h : n + 8 ≤ l.length) :
    (l.drop n).take 8 = [l[n], l[n + 1], l[n + 2], l[n + 3], l[n + 4], l[n + 5], l[n + 6], l[n + 7]] := by
  rw [List.drop_eq_getElem_cons (by omega), List.drop_eq_getElem_cons (i := n + 1) (by omega),
    List.drop_eq_getElem_cons (i := n + 1 + 1) (by omega), List.drop_eq_getElem_cons (i := n + 1 + 1 + 1) (by omega),
    List.drop_eq_getElem_cons (i := n + 1 + 1 + 1 + 1) (by omega),
    List.drop_eq_getElem_cons (i := n + 1 + 1 + 1 + 1 + 1) (by omega),
    List.drop_eq_getElem_cons (i := n + 1 + 1 + 1 + 1 + 1 + 1) (by omega),
    List.drop_eq_getElem_cons (i := n + 1 + 1 + 1 + 1 + 1 + 1 + 1) (by omega)]
  rfl

/-- Word `j` of a block is `LE64dec` of its bytes `8j` to `8j+7` (rules R52, R101). -/
theorem wordAt_eq (b : Block) (j : Fin 8) : wordAt b j = le64dec ((b.toList.drop (8 * j.val)).take 8) := by
  have hj := j.isLt
  rw [take_eight_drop _ _ (by simp; omega)]
  simp only [Vector.getElem_toList]
  rfl

/-- Byte `k` of word `j` of a block is the block's byte `8j + k` (rules R52, R101). -/
theorem byteOf_wordAt (b : Block) (j : Fin 8) (k : Fin 8) :
    byteOf k.val (wordAt b j) = b[8 * j.val + k.val] := by
  have hj := j.isLt
  have hk := k.isLt
  rw [wordAt_eq, byteOf_le64dec _ _ (by simp) (by simp; omega)]
  simp

end Sys2Proof.Machine
end

