-- ==== Sys2Proof/Laws/Blocks.lean ====
section
/-!
SUPPORT. The laws of compressing a string block by block (rules R139, R162) and of padding (rule R158).
-/
namespace Sys2Proof.Machine

variable (sbox : Vector Word 1024)

@[simp] theorem hashBlocks_zero (h : Vector Word 3) (m : List Byte) : hashBlocks sbox h 0 m = h := rfl

theorem hashBlocks_succ (h : Vector Word 3) (q : Nat) (m : List Byte) :
    hashBlocks sbox h (q + 1) m =
      hashBlocks sbox (compressWords sbox h (blockOfList (m.take 64))) q (m.drop 64) := rfl

/-- Compressing `p + q` blocks is compressing `p` and then the `q` that follow. -/
theorem hashBlocks_add (h : Vector Word 3) (p q : Nat) (m : List Byte) :
    hashBlocks sbox h (p + q) m = hashBlocks sbox (hashBlocks sbox h p m) q (m.drop (64 * p)) := by
  induction p generalizing h m with
  | zero => simp
  | succ p ih =>
    rw [Nat.add_right_comm, hashBlocks_succ, ih, hashBlocks_succ, List.drop_drop]
    congr 2
    omega

/-- Only the first `64 * q` bytes matter. -/
theorem hashBlocks_congr (h : Vector Word 3) (q : Nat) (m m' : List Byte) (e : m.take (64 * q) = m'.take (64 * q)) :
    hashBlocks sbox h q m = hashBlocks sbox h q m' := by
  induction q generalizing h m m' with
  | zero => rfl
  | succ q ih =>
    have e1 : m.take 64 = m'.take 64 := by
      have := congrArg (List.take 64) e
      rwa [List.take_take, List.take_take, Nat.min_eq_left (by omega)] at this
    have e2 : (m.drop 64).take (64 * q) = (m'.drop 64).take (64 * q) := by
      have := congrArg (List.drop 64) e
      rwa [List.drop_take, List.drop_take, show 64 * (q + 1) - 64 = 64 * q by omega] at this
    rw [hashBlocks_succ, hashBlocks_succ, e1, ih _ _ _ e2]

/-- Bytes after the blocks do not matter. -/
theorem hashBlocks_append (h : Vector Word 3) (q : Nat) (m r : List Byte) (hq : 64 * q ≤ m.length) :
    hashBlocks sbox h q (m ++ r) = hashBlocks sbox h q m :=
  hashBlocks_congr sbox h q _ _ (List.take_append_of_le_length hq)

/-- One block. -/
theorem hashBlocks_one (h : Vector Word 3) (m : List Byte) :
    hashBlocks sbox h 1 m = compressWords sbox h (blockOfList (m.take 64)) := rfl

/-- The block of a buffer is its string's first block. -/
theorem hashBlocks_buffer (h : Vector Word 3) (b : Block) :
    hashBlocks sbox h 1 b.toList = compressWords sbox h b := by
  rw [hashBlocks_one, List.take_of_length_le (by simp), blockOfList_of_toList]

@[simp] theorem padding_length (f : Nat) (bits : Word) : (padding f bits).length = padZeros f + 9 := by
  simp [padding]

/-- The padded last block or blocks have 64 or 128 bytes (rule R158). -/
theorem padding_fills (f : Nat) (hf : f < 64) (bits : Word) :
    f + (padding f bits).length = if f < 56 then 64 else 128 := by
  rw [padding_length, padZeros]
  split <;> omega

@[simp] theorem State.tail_length (s : State) : s.tail.length = s.fill.toNat := by
  have := s.fill.isLt
  simp [State.tail]
  omega

end Sys2Proof.Machine
end

