-- ==== Sys2Proof/Laws/State.lean ====
section
/-!
SUPPORT. One lemma per field per named operation on the state, so that no later proof unfolds a record update.
-/
namespace Sys2Proof.Machine

section MemWrite
variable (s : State) (at_ : Nat) (bytes : List Byte)

@[simp] theorem State.memWrite_h : (s.memWrite at_ bytes).h = s.h := rfl
@[simp] theorem State.memWrite_buf : (s.memWrite at_ bytes).buf = writeBytes s.buf at_ bytes := rfl
@[simp] theorem State.memWrite_fill : (s.memWrite at_ bytes).fill = s.fill := rfl
@[simp] theorem State.memWrite_len : (s.memWrite at_ bytes).len = s.len := rfl
@[simp] theorem State.memWrite_done : (s.memWrite at_ bytes).done = s.done := rfl
@[simp] theorem State.memWrite_x : (s.memWrite at_ bytes).x = s.x := rfl
@[simp] theorem State.memWrite_saved : (s.memWrite at_ bytes).saved = s.saved := rfl
@[simp] theorem State.memWrite_seq : (s.memWrite at_ bytes).seq = s.seq := rfl
@[simp] theorem State.memWrite_sbox : (s.memWrite at_ bytes).sbox = s.sbox := rfl
@[simp] theorem State.memWrite_source : (s.memWrite at_ bytes).source = s.source := rfl
@[simp] theorem State.memWrite_input : (s.memWrite at_ bytes).input = s.input := rfl
@[simp] theorem State.memWrite_responses : (s.memWrite at_ bytes).responses = s.responses := rfl
@[simp] theorem State.memWrite_resetLine : (s.memWrite at_ bytes).resetLine = s.resetLine := rfl
@[simp] theorem State.memWrite_testWord : (s.memWrite at_ bytes).testWord = s.testWord := rfl
@[simp] theorem State.memWrite_fresh : (s.memWrite at_ bytes).fresh = s.fresh := rfl

end MemWrite

section IdleSeq
variable (s : State)

@[simp] theorem State.idleSeq_h : s.idleSeq.h = s.h := rfl
@[simp] theorem State.idleSeq_buf : s.idleSeq.buf = s.buf := rfl
@[simp] theorem State.idleSeq_fill : s.idleSeq.fill = s.fill := rfl
@[simp] theorem State.idleSeq_len : s.idleSeq.len = s.len := rfl
@[simp] theorem State.idleSeq_done : s.idleSeq.done = s.done := rfl
@[simp] theorem State.idleSeq_x : s.idleSeq.x = s.x := rfl
@[simp] theorem State.idleSeq_saved : s.idleSeq.saved = s.saved := rfl
@[simp] theorem State.idleSeq_seq : s.idleSeq.seq = none := rfl
@[simp] theorem State.idleSeq_sbox : s.idleSeq.sbox = s.sbox := rfl
@[simp] theorem State.idleSeq_source : s.idleSeq.source = s.source := rfl
@[simp] theorem State.idleSeq_input : s.idleSeq.input = s.input := rfl
@[simp] theorem State.idleSeq_responses : s.idleSeq.responses = s.responses := rfl
@[simp] theorem State.idleSeq_resetLine : s.idleSeq.resetLine = s.resetLine := rfl
@[simp] theorem State.idleSeq_testWord : s.idleSeq.testWord = s.testWord := rfl
@[simp] theorem State.idleSeq_fresh : s.idleSeq.fresh = s.fresh := rfl

end IdleSeq

section BeginCompress
variable (s : State) (b : BlockSource)

@[simp] theorem State.beginCompress_h : (s.beginCompress b).h = s.h := rfl
@[simp] theorem State.beginCompress_buf : (s.beginCompress b).buf = s.buf := rfl
@[simp] theorem State.beginCompress_fill : (s.beginCompress b).fill = s.fill := rfl
@[simp] theorem State.beginCompress_len : (s.beginCompress b).len = s.len := rfl
@[simp] theorem State.beginCompress_done : (s.beginCompress b).done = s.done := rfl
@[simp] theorem State.beginCompress_x : (s.beginCompress b).x = s.x := rfl
@[simp] theorem State.beginCompress_saved : (s.beginCompress b).saved = s.saved := rfl
@[simp] theorem State.beginCompress_seq : (s.beginCompress b).seq = some 0 := rfl
@[simp] theorem State.beginCompress_sbox : (s.beginCompress b).sbox = s.sbox := rfl
@[simp] theorem State.beginCompress_source : (s.beginCompress b).source = b := rfl
@[simp] theorem State.beginCompress_input : (s.beginCompress b).input = s.input := rfl
@[simp] theorem State.beginCompress_responses : (s.beginCompress b).responses = s.responses := rfl
@[simp] theorem State.beginCompress_resetLine : (s.beginCompress b).resetLine = s.resetLine := rfl
@[simp] theorem State.beginCompress_testWord : (s.beginCompress b).testWord = s.testWord := rfl
@[simp] theorem State.beginCompress_fresh : (s.beginCompress b).fresh = s.fresh := rfl

end BeginCompress

section EndCompress
variable (s : State)

@[simp] theorem State.endCompress_h : s.endCompress.h = s.h := rfl
@[simp] theorem State.endCompress_buf : s.endCompress.buf = s.buf := rfl
@[simp] theorem State.endCompress_fill : s.endCompress.fill = s.fill := rfl
@[simp] theorem State.endCompress_len : s.endCompress.len = s.len := rfl
@[simp] theorem State.endCompress_done : s.endCompress.done = s.done := rfl
@[simp] theorem State.endCompress_x : s.endCompress.x = freeX s.fresh := rfl
@[simp] theorem State.endCompress_saved : s.endCompress.saved = freeSaved s.fresh := rfl
@[simp] theorem State.endCompress_seq : s.endCompress.seq = s.seq := rfl
@[simp] theorem State.endCompress_sbox : s.endCompress.sbox = s.sbox := rfl
@[simp] theorem State.endCompress_source : s.endCompress.source = .buffer := rfl
@[simp] theorem State.endCompress_input : s.endCompress.input = s.input := rfl
@[simp] theorem State.endCompress_responses : s.endCompress.responses = s.responses := rfl
@[simp] theorem State.endCompress_resetLine : s.endCompress.resetLine = s.resetLine := rfl
@[simp] theorem State.endCompress_testWord : s.endCompress.testWord = s.testWord := rfl
@[simp] theorem State.endCompress_fresh : s.endCompress.fresh = s.fresh + 1 := rfl

end EndCompress

section Respond
variable (s : State)

@[simp] theorem State.respond_h : s.respond.h = s.h := rfl
@[simp] theorem State.respond_buf : s.respond.buf = s.buf := rfl
@[simp] theorem State.respond_fill : s.respond.fill = s.fill := rfl
@[simp] theorem State.respond_len : s.respond.len = s.len := rfl
@[simp] theorem State.respond_done : s.respond.done = s.done := rfl
@[simp] theorem State.respond_x : s.respond.x = s.x := rfl
@[simp] theorem State.respond_saved : s.respond.saved = s.saved := rfl
@[simp] theorem State.respond_seq : s.respond.seq = s.seq := rfl
@[simp] theorem State.respond_sbox : s.respond.sbox = s.sbox := rfl
@[simp] theorem State.respond_source : s.respond.source = s.source := rfl
@[simp] theorem State.respond_input : s.respond.input = s.input := rfl
@[simp] theorem State.respond_responses : s.respond.responses = s.responses ++ [digestBytes s.h] := rfl
@[simp] theorem State.respond_resetLine : s.respond.resetLine = s.resetLine := rfl
@[simp] theorem State.respond_testWord : s.respond.testWord = s.testWord := rfl
@[simp] theorem State.respond_fresh : s.respond.fresh = s.fresh := rfl

end Respond

section ForgetMessage
variable (s : State)

@[simp] theorem State.forgetMessage_h : s.forgetMessage.h = s.h := rfl
@[simp] theorem State.forgetMessage_buf : s.forgetMessage.buf = freeBuf s.fresh := rfl
@[simp] theorem State.forgetMessage_fill : s.forgetMessage.fill = Config.freeFill s.fresh := rfl
@[simp] theorem State.forgetMessage_len : s.forgetMessage.len = Config.freeLen s.fresh := rfl
@[simp] theorem State.forgetMessage_done : s.forgetMessage.done = s.done := rfl
@[simp] theorem State.forgetMessage_x : s.forgetMessage.x = s.x := rfl
@[simp] theorem State.forgetMessage_saved : s.forgetMessage.saved = s.saved := rfl
@[simp] theorem State.forgetMessage_seq : s.forgetMessage.seq = s.seq := rfl
@[simp] theorem State.forgetMessage_sbox : s.forgetMessage.sbox = s.sbox := rfl
@[simp] theorem State.forgetMessage_source : s.forgetMessage.source = s.source := rfl
@[simp] theorem State.forgetMessage_input : s.forgetMessage.input = s.input := rfl
@[simp] theorem State.forgetMessage_responses : s.forgetMessage.responses = s.responses := rfl
@[simp] theorem State.forgetMessage_resetLine : s.forgetMessage.resetLine = s.resetLine := rfl
@[simp] theorem State.forgetMessage_testWord : s.forgetMessage.testWord = s.testWord := rfl
@[simp] theorem State.forgetMessage_fresh : s.forgetMessage.fresh = s.fresh + 1 := rfl

end ForgetMessage

section ClearMessage
variable (s : State)

@[simp] theorem State.clearMessage_h : s.clearMessage.h = Config.iv := rfl
@[simp] theorem State.clearMessage_buf : s.clearMessage.buf = s.buf := rfl
@[simp] theorem State.clearMessage_fill : s.clearMessage.fill = 0 := rfl
@[simp] theorem State.clearMessage_len : s.clearMessage.len = 0 := rfl
@[simp] theorem State.clearMessage_done : s.clearMessage.done = false := rfl
@[simp] theorem State.clearMessage_x : s.clearMessage.x = s.x := rfl
@[simp] theorem State.clearMessage_saved : s.clearMessage.saved = s.saved := rfl
@[simp] theorem State.clearMessage_seq : s.clearMessage.seq = s.seq := rfl
@[simp] theorem State.clearMessage_sbox : s.clearMessage.sbox = s.sbox := rfl
@[simp] theorem State.clearMessage_source : s.clearMessage.source = s.source := rfl
@[simp] theorem State.clearMessage_input : s.clearMessage.input = s.input := rfl
@[simp] theorem State.clearMessage_responses : s.clearMessage.responses = s.responses := rfl
@[simp] theorem State.clearMessage_resetLine : s.clearMessage.resetLine = s.resetLine := rfl
@[simp] theorem State.clearMessage_testWord : s.clearMessage.testWord = s.testWord := rfl
@[simp] theorem State.clearMessage_fresh : s.clearMessage.fresh = s.fresh := rfl

end ClearMessage

section SetDone
variable (s : State)

@[simp] theorem State.setDone_h : s.setDone.h = s.h := rfl
@[simp] theorem State.setDone_buf : s.setDone.buf = s.buf := rfl
@[simp] theorem State.setDone_fill : s.setDone.fill = s.fill := rfl
@[simp] theorem State.setDone_len : s.setDone.len = s.len := rfl
@[simp] theorem State.setDone_done : s.setDone.done = true := rfl
@[simp] theorem State.setDone_x : s.setDone.x = s.x := rfl
@[simp] theorem State.setDone_saved : s.setDone.saved = s.saved := rfl
@[simp] theorem State.setDone_seq : s.setDone.seq = s.seq := rfl
@[simp] theorem State.setDone_sbox : s.setDone.sbox = s.sbox := rfl
@[simp] theorem State.setDone_source : s.setDone.source = s.source := rfl
@[simp] theorem State.setDone_input : s.setDone.input = s.input := rfl
@[simp] theorem State.setDone_responses : s.setDone.responses = s.responses := rfl
@[simp] theorem State.setDone_resetLine : s.setDone.resetLine = s.resetLine := rfl
@[simp] theorem State.setDone_testWord : s.setDone.testWord = s.testWord := rfl
@[simp] theorem State.setDone_fresh : s.setDone.fresh = s.fresh := rfl

end SetDone

section HardwareReset
variable (s : State)

@[simp] theorem State.hardwareReset_h : s.hardwareReset.h = Config.iv := rfl
@[simp] theorem State.hardwareReset_buf : s.hardwareReset.buf = freeBuf s.fresh := rfl
@[simp] theorem State.hardwareReset_fill : s.hardwareReset.fill = 0 := rfl
@[simp] theorem State.hardwareReset_len : s.hardwareReset.len = 0 := rfl
@[simp] theorem State.hardwareReset_done : s.hardwareReset.done = false := rfl
@[simp] theorem State.hardwareReset_x : s.hardwareReset.x = freeX s.fresh := rfl
@[simp] theorem State.hardwareReset_saved : s.hardwareReset.saved = freeSaved s.fresh := rfl
@[simp] theorem State.hardwareReset_seq : s.hardwareReset.seq = none := rfl
@[simp] theorem State.hardwareReset_sbox : s.hardwareReset.sbox = s.sbox := rfl
@[simp] theorem State.hardwareReset_source : s.hardwareReset.source = .buffer := rfl
@[simp] theorem State.hardwareReset_input : s.hardwareReset.input = s.input := rfl
@[simp] theorem State.hardwareReset_responses : s.hardwareReset.responses = s.responses := rfl
@[simp] theorem State.hardwareReset_resetLine : s.hardwareReset.resetLine = false := rfl
@[simp] theorem State.hardwareReset_testWord : s.hardwareReset.testWord = none := rfl
@[simp] theorem State.hardwareReset_fresh : s.hardwareReset.fresh = s.fresh + 1 := rfl

end HardwareReset

section AdvanceSeq
variable (s : State)

/-- Everything `advanceSeq` does while the sequencer runs (rules R29, R87). -/
theorem State.advanceSeq_running (k : Fin 29) (hk : s.seq = some k) :
    s.advanceSeq = { s with seq := seqNext k } := by
  simp [State.advanceSeq, hk]

/-- Everything `advanceSeq` does with an idle sequencer: the sequencer takes a free value (log entry 8). -/
theorem State.advanceSeq_idle (hk : s.seq = none) :
    s.advanceSeq = { s with seq := Config.freeSeq s.fresh, fresh := s.fresh + 1 } := by
  simp [State.advanceSeq, hk]

@[simp] theorem State.advanceSeq_h : s.advanceSeq.h = s.h := by
  unfold State.advanceSeq; split <;> rfl
@[simp] theorem State.advanceSeq_buf : s.advanceSeq.buf = s.buf := by
  unfold State.advanceSeq; split <;> rfl
@[simp] theorem State.advanceSeq_fill : s.advanceSeq.fill = s.fill := by
  unfold State.advanceSeq; split <;> rfl
@[simp] theorem State.advanceSeq_len : s.advanceSeq.len = s.len := by
  unfold State.advanceSeq; split <;> rfl
@[simp] theorem State.advanceSeq_done : s.advanceSeq.done = s.done := by
  unfold State.advanceSeq; split <;> rfl
@[simp] theorem State.advanceSeq_x : s.advanceSeq.x = s.x := by
  unfold State.advanceSeq; split <;> rfl
@[simp] theorem State.advanceSeq_saved : s.advanceSeq.saved = s.saved := by
  unfold State.advanceSeq; split <;> rfl
@[simp] theorem State.advanceSeq_sbox : s.advanceSeq.sbox = s.sbox := by
  unfold State.advanceSeq; split <;> rfl
@[simp] theorem State.advanceSeq_source : s.advanceSeq.source = s.source := by
  unfold State.advanceSeq; split <;> rfl
@[simp] theorem State.advanceSeq_input : s.advanceSeq.input = s.input := by
  unfold State.advanceSeq; split <;> rfl
@[simp] theorem State.advanceSeq_responses : s.advanceSeq.responses = s.responses := by
  unfold State.advanceSeq; split <;> rfl
@[simp] theorem State.advanceSeq_resetLine : s.advanceSeq.resetLine = s.resetLine := by
  unfold State.advanceSeq; split <;> rfl
@[simp] theorem State.advanceSeq_testWord : s.advanceSeq.testWord = s.testWord := by
  unfold State.advanceSeq; split <;> rfl

end AdvanceSeq

end Sys2Proof.Machine
end

