-- ==== Sys2Proof/Laws/Compress.lean ====
section
/-!
SUPPORT. Everything that the micro-operations, `PASS` and `COMPRESS` do to the state, once (rules R100 to R106, R121).
-/
namespace Sys2Proof.Machine

/-- `LOADX` while the sequencer runs. -/
theorem State.loadX_running (s : State) (k : Fin 29) (hk : s.seq = some k) :
    s.loadX = { s with x := blockWords s.blockBytes, seq := seqNext k } :=
  State.advanceSeq_running { s with x := blockWords s.blockBytes } k hk

/-- `SAVE` while the sequencer runs. -/
theorem State.saveH_running (s : State) (k : Fin 29) (hk : s.seq = some k) :
    s.saveH = { s with saved := s.h, seq := seqNext k } :=
  State.advanceSeq_running { s with saved := s.h } k hk

/-- `ROUND` while the sequencer runs. -/
theorem State.roundStep_running (m rot : Fin 3) (w : Fin 8) (s : State) (k : Fin 29) (hk : s.seq = some k) :
    s.roundStep m rot w = { s with h := roundWords s.sbox m rot s.x[w] s.h, seq := seqNext k } :=
  State.advanceSeq_running { s with h := roundWords s.sbox m rot s.x[w] s.h } k hk

/-- `KEYSCHED` while the sequencer runs. -/
theorem State.keySched_running (s : State) (k : Fin 29) (hk : s.seq = some k) :
    s.keySched = { s with x := keySchedule s.x, seq := seqNext k } :=
  State.advanceSeq_running { s with x := keySchedule s.x } k hk

/-- `FEEDFWD` in any state. -/
theorem State.feedForward_eq (s : State) :
    s.feedForward = { s with h := feedWords s.saved s.h, seq := none } := rfl

/-- The sequencer inside the micro-program (rules R29, R87). -/
theorem seqNext_lt (k : Nat) (h : k + 1 < 29) : seqNext ⟨k, by omega⟩ = some ⟨k + 1, h⟩ := by
  simp [seqNext, h]

/-- `ROUND` while the sequencer runs and is not at its last step. -/
theorem State.roundStep_at (m rot : Fin 3) (w : Fin 8) (s : State) (k : Nat) (h : k + 1 < 29)
    (hk : s.seq = some ⟨k, by omega⟩) :
    s.roundStep m rot w = { s with h := roundWords s.sbox m rot s.x[w] s.h, seq := some ⟨k + 1, h⟩ } := by
  rw [State.roundStep_running m rot w s _ hk, seqNext_lt k h]

/-- A run of rounds changes `H` and moves the sequencer by their number (rule R104). -/
theorem rounds_foldl (m r0 : Fin 3) (l : List (Fin 8)) (s : State) (k : Nat) (h : k + l.length < 29)
    (hk : s.seq = some ⟨k, by omega⟩) :
    l.foldl (fun s i => s.roundStep m (passRot r0 i) i) s =
      { s with h := l.foldl (fun h i => roundWords s.sbox m (passRot r0 i) s.x[i] h) s.h,
               seq := some ⟨k + l.length, h⟩ } := by
  induction l generalizing s k with
  | nil => simp [← hk]
  | cons i l ih =>
    simp only [List.length_cons] at h
    rw [List.foldl_cons, State.roundStep_at m (passRot r0 i) i s k (by omega) hk, ih _ (k + 1) (by omega) rfl]
    simp only [List.foldl_cons, List.length_cons]
    congr 2
    apply Fin.ext
    show k + 1 + l.length = k + (l.length + 1)
    omega

/-- `PASS` while the sequencer has eight steps before it (rule R104). -/
theorem State.pass_at (m r0 : Fin 3) (s : State) (k : Nat) (h : k + 8 < 29) (hk : s.seq = some ⟨k, by omega⟩) :
    s.pass m r0 = { s with h := passWords s.sbox m r0 s.x s.h, seq := some ⟨k + 8, h⟩ } :=
  rounds_foldl m r0 passRounds s k h hk

/-- The states a `COMPRESS` of `b` from `s` runs through: they differ in `H`, `X`, `S` and `seq` only. -/
def State.inCompress (s : State) (b : BlockSource) (h : Vector Word 3) (x : Vector Word 8) (saved : Vector Word 3)
    (seq : Option (Fin 29)) : State :=
  { s with h := h, x := x, saved := saved, seq := seq, source := b }

section InCompress
variable (s : State) (b : BlockSource) (h sv : Vector Word 3) (x : Vector Word 8)

theorem State.inCompress_begin : s.beginCompress b = s.inCompress b s.h s.x s.saved (some 0) := rfl

theorem State.inCompress_loadX :
    (s.inCompress b h x sv (some 0)).loadX = s.inCompress b h (blockWords (blockOf b s.buf)) sv (some 1) :=
  State.loadX_running _ 0 rfl

theorem State.inCompress_saveH : (s.inCompress b h x sv (some 1)).saveH = s.inCompress b h x h (some 2) :=
  State.saveH_running _ 1 rfl

theorem State.inCompress_pass (m r0 : Fin 3) (k : Fin 29) (k' : Fin 29) (hk : k.val + 8 = k'.val) :
    (s.inCompress b h x sv (some k)).pass m r0 = s.inCompress b (passWords s.sbox m r0 x h) x sv (some k') := by
  have e : k' = ⟨k.val + 8, hk ▸ k'.isLt⟩ := Fin.ext hk.symm
  rw [e]
  exact State.pass_at m r0 _ k.val (hk ▸ k'.isLt) rfl

theorem State.inCompress_keySched (k : Fin 29) (k' : Fin 29) (hk : seqNext k = some k') :
    (s.inCompress b h x sv (some k)).keySched = s.inCompress b h (keySchedule x) sv (some k') := by
  rw [← hk]
  exact State.keySched_running _ k rfl

theorem State.inCompress_feedForward (q : Option (Fin 29)) :
    (s.inCompress b h x sv q).feedForward = s.inCompress b (feedWords sv h) x sv none := rfl

end InCompress

/-- EVERYTHING `COMPRESS` DOES (rules R100, R105): `H` becomes `compress(H, block)`; the scratch is the block source,
the twice key-scheduled words, the incoming hash state and an idle sequencer; nothing else changes. -/
theorem State.compress_eq (b : BlockSource) (s : State) :
    s.compress b =
      s.inCompress b (compressWords s.sbox s.h (blockOf b s.buf))
        (keySchedule (keySchedule (blockWords (blockOf b s.buf)))) s.h none := by
  rw [State.compress, State.inCompress_begin, State.inCompress_loadX, State.inCompress_saveH,
    State.inCompress_pass _ _ _ _ _ 0 0 2 10 rfl, State.inCompress_keySched _ _ _ _ _ 10 11 rfl,
    State.inCompress_pass _ _ _ _ _ 1 2 11 19 rfl, State.inCompress_keySched _ _ _ _ _ 19 20 rfl,
    State.inCompress_pass _ _ _ _ _ 2 1 20 28 rfl, State.inCompress_feedForward]
  rfl

/-- Everything a `COMPRESS` inside a command does: `H` becomes `compress(H, block)`, `X` and `S` are unspecified
afterwards (rules R27, R28), and nothing else that a command can read changes. -/
theorem State.compressBlock_eq (b : BlockSource) (s : State) :
    s.compressBlock b =
      { s with
        h := compressWords s.sbox s.h (blockOf b s.buf)
        x := freeX s.fresh
        saved := freeSaved s.fresh
        seq := none
        source := .buffer
        fresh := s.fresh + 1 } := by
  rw [State.compressBlock, State.compress_eq]
  rfl

section CompressBlock
variable (b : BlockSource) (s : State)

@[simp] theorem State.compressBlock_h :
    (s.compressBlock b).h = compressWords s.sbox s.h (blockOf b s.buf) := by rw [State.compressBlock_eq]
@[simp] theorem State.compressBlock_buf : (s.compressBlock b).buf = s.buf := by rw [State.compressBlock_eq]
@[simp] theorem State.compressBlock_fill : (s.compressBlock b).fill = s.fill := by rw [State.compressBlock_eq]
@[simp] theorem State.compressBlock_len : (s.compressBlock b).len = s.len := by rw [State.compressBlock_eq]
@[simp] theorem State.compressBlock_done : (s.compressBlock b).done = s.done := by rw [State.compressBlock_eq]
@[simp] theorem State.compressBlock_x : (s.compressBlock b).x = freeX s.fresh := by rw [State.compressBlock_eq]
@[simp] theorem State.compressBlock_saved : (s.compressBlock b).saved = freeSaved s.fresh := by
  rw [State.compressBlock_eq]
@[simp] theorem State.compressBlock_seq : (s.compressBlock b).seq = none := by rw [State.compressBlock_eq]
@[simp] theorem State.compressBlock_sbox : (s.compressBlock b).sbox = s.sbox := by rw [State.compressBlock_eq]
@[simp] theorem State.compressBlock_source : (s.compressBlock b).source = .buffer := by rw [State.compressBlock_eq]
@[simp] theorem State.compressBlock_input : (s.compressBlock b).input = s.input := by rw [State.compressBlock_eq]
@[simp] theorem State.compressBlock_responses : (s.compressBlock b).responses = s.responses := by
  rw [State.compressBlock_eq]
@[simp] theorem State.compressBlock_resetLine : (s.compressBlock b).resetLine = s.resetLine := by
  rw [State.compressBlock_eq]
@[simp] theorem State.compressBlock_testWord : (s.compressBlock b).testWord = s.testWord := by
  rw [State.compressBlock_eq]
@[simp] theorem State.compressBlock_fresh : (s.compressBlock b).fresh = s.fresh + 1 := by
  rw [State.compressBlock_eq]

end CompressBlock

end Sys2Proof.Machine
end

