-- ==== Sys2Proof/Laws/Decode.lean ====
section
/-!
SUPPORT. What the decoders answer, form by form (rules R76 to R81).
-/
namespace Sys2Proof

open Sys2Proof.Machine

/-- A `RESET` byte at the head of a stream (rules R76, R78). -/
theorem decodeCommand_reset (rest : List Byte) : decodeCommand (0x01#8 :: rest) = .ok (.reset, rest) := rfl

/-- A `FINALIZE` byte at the head of a stream (rules R76, R78). -/
theorem decodeCommand_finalize (rest : List Byte) : decodeCommand (0x03#8 :: rest) = .ok (.finalize, rest) := rfl

/-- An `UPDATE` byte at the head of a stream (rules R77, R78). -/
theorem decodeCommand_update (rest : List Byte) : decodeCommand (0x02#8 :: rest) = decodeUpdate rest := rfl

/-- A reserved opcode (rules R78, R80). -/
theorem decodeCommand_reserved (op : Byte) (rest : List Byte) (h1 : op ≠ 0x01#8) (h2 : op ≠ 0x02#8)
    (h3 : op ≠ 0x03#8) :
    decodeCommand (op :: rest) = .error .reservedOpcode := by
  rw [decodeCommand, if_neg h1, if_neg h2, if_neg h3]

/-- The header of an `UPDATE` with its whole payload (rule R77). -/
theorem decodeUpdate_of_header (header d rest : List Byte) (h8 : header.length = 8) (hn : leNat header = d.length) :
    decodeUpdate (header ++ (d ++ rest)) = .ok (.update d, rest) := by
  have e1 : (header ++ (d ++ rest)).take 8 = header := by rw [← h8, List.take_left]
  have e2 : (header ++ (d ++ rest)).drop 8 = d ++ rest := by rw [← h8, List.drop_left]
  have g : ¬ (header ++ (d ++ rest)).length < 8 := by simp; omega
  simp only [decodeUpdate, g, if_false, e1, e2, hn]
  rw [if_neg (by simp)]
  simp

/-- A header that is cut (rule R79). -/
theorem decodeUpdate_cut_header (s : List Byte) (h : s.length < 8) : decodeUpdate s = .error .truncatedCommand := by
  simp [decodeUpdate, h]

/-- A payload that is cut (rule R79). -/
theorem decodeUpdate_cut_payload (s : List Byte) (h8 : 8 ≤ s.length) (h : (s.drop 8).length < leNat (s.take 8)) :
    decodeUpdate s = .error .truncatedCommand := by
  simp only [decodeUpdate, show ¬ s.length < 8 by omega, if_false, h, if_true]

end Sys2Proof
end

