-- ==== Sys2Proof/Laws/Finalize.lean ====
section
/-!
SUPPORT. Everything the padding of `FINALIZE` does, once (rules R151 to R154).
-/
namespace Sys2Proof.Machine

/-- The buffer after step 1: the waiting tail, the terminator, zeros (rule R151). -/
theorem State.padTail_bytes (s : State) :
    s.padTail.buf.toList = s.tail ++ Config.terminator :: List.replicate (63 - s.fill.toNat) 0 := by
  have hlt := s.fill.isLt
  rw [State.padTail, State.memWrite_buf, writeBytes_toList _ _ _ (by simp; omega),
    List.drop_eq_nil_of_le (by simp; omega), List.append_nil]
  rfl

/-- Step 2 writes the length field over the last eight bytes (rule R153): with `fill < 56` the block is then the
waiting tail with its whole padding. -/
theorem State.oneBlock_bytes (s : State) (bits : Word) (h : s.fill.toNat < 56) :
    (s.padTail.memWrite 56 (le64 bits)).buf.toList = s.tail ++ padding s.fill.toNat bits := by
  have ht : s.tail.length = s.fill.toNat := s.tail_length
  have e : s.tail ++ Config.terminator :: List.replicate (63 - s.fill.toNat) 0 =
      (s.tail ++ Config.terminator :: List.replicate (55 - s.fill.toNat) 0) ++ List.replicate 8 0 := by
    simp only [List.append_assoc, List.cons_append, List.replicate_append_replicate]
    congr 3
    omega
  have hl : (s.tail ++ Config.terminator :: List.replicate (55 - s.fill.toNat) (0 : Byte)).length = 56 := by
    rw [List.length_append, List.length_cons, List.length_replicate, ht]; omega
  rw [State.memWrite_buf, writeBytes_toList _ _ _ (by simp), State.padTail_bytes, e,
    List.take_append_of_le_length (by omega), List.take_of_length_le (by omega),
    List.drop_eq_nil_of_le (by rw [List.length_append, hl]; simp), List.append_nil]
  simp [padding, padZeros, h]

/-- The second block of step 3: zeros and the length field (rule R154). -/
theorem State.secondBlock_bytes (b : Block) (bits : Word) :
    (writeBytes (writeBytes b 0 (List.replicate 56 0)) 56 (le64 bits)).toList = List.replicate 56 0 ++ le64 bits := by
  rw [writeBytes_toList _ _ _ (by simp), writeBytes_toList _ _ _ (by simp), List.take_zero, List.nil_append,
    List.take_append_of_le_length (by simp), List.take_of_length_le (by simp), List.drop_eq_nil_of_le (by simp),
    List.append_nil]

/-- Step 2, everything it does: `H` absorbs the one padded block (rule R153). -/
theorem State.finishOneBlock_h (s : State) (bits : Word) (h : s.fill.toNat < 56) :
    (s.padTail.finishOneBlock bits).h = hashBlocks s.sbox s.h 1 (s.tail ++ padding s.fill.toNat bits) := by
  rw [← State.oneBlock_bytes s bits h, hashBlocks_buffer]
  simp [State.finishOneBlock, blockOf, State.padTail]

/-- Step 3, everything it does: `H` absorbs the two padded blocks (rule R154). -/
theorem State.finishTwoBlocks_h (s : State) (bits : Word) (h : ¬ s.fill.toNat < 56) :
    (s.padTail.finishTwoBlocks bits).h = hashBlocks s.sbox s.h 2 (s.tail ++ padding s.fill.toNat bits) := by
  have hlt := s.fill.isLt
  have ht : s.tail.length = s.fill.toNat := s.tail_length
  have e : s.tail ++ padding s.fill.toNat bits =
      s.padTail.buf.toList ++ (List.replicate 56 0 ++ le64 bits) := by
    rw [State.padTail_bytes, padding, padZeros, if_neg h,
      show 119 - s.fill.toNat = (63 - s.fill.toNat) + 56 by omega, List.replicate_add]
    simp only [List.append_assoc, List.cons_append]
  rw [e, show (2 : Nat) = 1 + 1 from rfl, hashBlocks_add, hashBlocks_append _ _ _ _ _ (by simp), hashBlocks_buffer,
    List.drop_left' (by simp), ← State.secondBlock_bytes s.padTail.buf bits, hashBlocks_buffer]
  simp [State.finishTwoBlocks, blockOf, State.padTail]

/-- `H` after steps 1 to 3: the waiting tail and its padding have been compressed, in one or two blocks (rules R153,
R154). -/
theorem State.padAndCompress_h (s : State) :
    s.padAndCompress.h =
      hashBlocks s.sbox s.h (if s.fill.toNat < 56 then 1 else 2) (s.tail ++ padding s.fill.toNat s.bitLength) := by
  rw [State.padAndCompress]
  split
  · rename_i h; exact State.finishOneBlock_h s _ h
  · rename_i h; exact State.finishTwoBlocks_h s _ h

section PadAndCompress
variable (s : State)

@[simp] theorem State.padAndCompress_done : s.padAndCompress.done = s.done := by
  unfold State.padAndCompress State.finishOneBlock State.finishTwoBlocks State.padTail; split <;> simp
@[simp] theorem State.padAndCompress_seq : s.padAndCompress.seq = none := by
  unfold State.padAndCompress State.finishOneBlock State.finishTwoBlocks State.padTail; split <;> simp
@[simp] theorem State.padAndCompress_sbox : s.padAndCompress.sbox = s.sbox := by
  unfold State.padAndCompress State.finishOneBlock State.finishTwoBlocks State.padTail; split <;> simp
@[simp] theorem State.padAndCompress_source : s.padAndCompress.source = .buffer := by
  unfold State.padAndCompress State.finishOneBlock State.finishTwoBlocks State.padTail; split <;> simp
@[simp] theorem State.padAndCompress_input : s.padAndCompress.input = s.input := by
  unfold State.padAndCompress State.finishOneBlock State.finishTwoBlocks State.padTail; split <;> simp
@[simp] theorem State.padAndCompress_responses : s.padAndCompress.responses = s.responses := by
  unfold State.padAndCompress State.finishOneBlock State.finishTwoBlocks State.padTail; split <;> simp
@[simp] theorem State.padAndCompress_resetLine : s.padAndCompress.resetLine = s.resetLine := by
  unfold State.padAndCompress State.finishOneBlock State.finishTwoBlocks State.padTail; split <;> simp
@[simp] theorem State.padAndCompress_testWord : s.padAndCompress.testWord = s.testWord := by
  unfold State.padAndCompress State.finishOneBlock State.finishTwoBlocks State.padTail; split <;> simp

end PadAndCompress

end Sys2Proof.Machine
end

