-- ==== Sys2Proof/Laws/Step.lean ====
section
/-!
SUPPORT. Everything `fetch` finds, once; every claim about `step` splits by these cases (rules R29, R191, R195, R198).
-/
namespace Sys2Proof.Machine

/-- EVERYTHING A STEP CAN DO: a hardware reset; a control word under test; the micro-program word of a running
sequencer; waiting; the next command of the stream. -/
theorem fetch_cases (s : State) :
    (s.resetLine = true ∧ fetch s = .hardwareReset) ∨
    (s.resetLine = false ∧ ∃ u, s.testWord = some u ∧ fetch s = fetchUop u { s with testWord := none }) ∨
    (s.resetLine = false ∧ s.testWord = none ∧ ∃ k, s.seq = some k ∧ fetch s = fetchUop microProgram[k] s) ∨
    (s.resetLine = false ∧ s.testWord = none ∧ s.seq = none ∧ fetch s = fetchCommand s) := by
  unfold fetch
  cases s.resetLine with
  | true => simp
  | false =>
    cases s.testWord with
    | some u => simp
    | none =>
      cases s.seq with
      | some k => simp
      | none => simp

/-- What `fetchUop` finds (rules R81, R85). -/
theorem fetchUop_cases (u : BitVec 10) (s : State) :
    (∃ i, decodeUop u = .ok i ∧ fetchUop u s = .run i s) ∨
    (∃ e, decodeUop u = .error e ∧ fetchUop u s = .reject (refusalOf e)) := by
  unfold fetchUop
  split
  · rename_i i h; exact .inl ⟨i, h, rfl⟩
  · rename_i e h; exact .inr ⟨e, h, rfl⟩

/-- What `fetchCommand` finds (rules R79, R195, R198). -/
theorem fetchCommand_cases (s : State) :
    (s.input = [] ∧ fetchCommand s = .wait) ∨
    (∃ i rest, decodeCommand s.input = .ok (i, rest) ∧ s.input ≠ [] ∧
      fetchCommand s = .run i { s with input := rest }) ∨
    (∃ e, decodeCommand s.input = .error e ∧ s.input ≠ [] ∧ fetchCommand s = .reject (refusalOf e)) := by
  unfold fetchCommand
  split
  · rename_i h; exact .inl ⟨h, rfl⟩
  · rename_i b bs h
    rw [h]
    cases hd : decodeCommand (b :: bs) with
    | ok r => exact .inr (.inl ⟨r.1, r.2, rfl, by simp, rfl⟩)
    | error e => exact .inr (.inr ⟨e, rfl, by simp, rfl⟩)

/-- A step runs the command that the stream spells (rules R79, R195). -/
theorem step_of_fetch_run (s s' : State) (i : Instr) (h : fetch s = .run i s') : step s = exec i s' := by
  simp [step, h]

end Sys2Proof.Machine
end

