-- ==== Sys2Proof/Laws/Streaming.lean ====
section
/-!
SUPPORT. Everything each phase of `UPDATE` does, once (rules R131, R132, R133).
-/
namespace Sys2Proof.Machine

/-! ## Phase 1 -/

/-- Phase 1 on an empty buffer does nothing (rule R131). -/
theorem State.topUp_empty (d : List Byte) (s : State) (h : s.fill = 0) : s.topUp d = s := by
  simp [State.topUp, h]

theorem topUpCount_empty (n : Nat) : topUpCount 0 n = 0 := by simp [topUpCount]

theorem topUpCount_partial (f : BitVec 6) (n : Nat) (hf : f ≠ 0) (h : f.toNat + n < 64) : topUpCount f n = n := by
  simp only [topUpCount, hf, if_false]
  omega

theorem topUpCount_full (f : BitVec 6) (n : Nat) (hf : f ≠ 0) (h : 64 ≤ f.toNat + n) :
    topUpCount f n = 64 - f.toNat := by
  simp only [topUpCount, hf, if_false]
  omega

theorem topUpCount_le (f : BitVec 6) (n : Nat) : topUpCount f n ≤ n := by
  unfold topUpCount
  split <;> omega

/-- Phase 1 that does not fill the buffer: the bytes are appended (rule R131). -/
theorem State.topUp_partial (d : List Byte) (s : State) (hf : s.fill ≠ 0) (h : s.fill.toNat + d.length < 64) :
    s.topUp d =
      { s with
        buf := writeBytes s.buf s.fill.toNat d
        fill := s.fill + BitVec.ofNat 6 d.length
        len := s.len + BitVec.ofNat 64 d.length } := by
  have e : ¬ s.fill.toNat + d.length = 64 := by omega
  simp only [State.topUp, hf, if_false, topUpCount_partial s.fill d.length hf h, e, List.take_length]
  rfl

/-- The buffer once phase 1 has filled it, just before it is flushed (rule R131). -/
def State.filled (d : List Byte) (s : State) : State :=
  { s with
    buf := writeBytes s.buf s.fill.toNat (d.take (64 - s.fill.toNat))
    len := s.len + BitVec.ofNat 64 (64 - s.fill.toNat) }

/-- Phase 1 that fills the buffer: it is compressed and emptied (rule R131). -/
theorem State.topUp_full (d : List Byte) (s : State) (hf : s.fill ≠ 0) (h : 64 ≤ s.fill.toNat + d.length) :
    s.topUp d = { (s.filled d).compressBlock .buffer with fill := 0 } := by
  have hlt := s.fill.isLt
  have e : s.fill.toNat + (64 - s.fill.toNat) = 64 := by omega
  simp only [State.topUp, hf, if_false, topUpCount_full s.fill d.length hf h, e, if_true]
  rfl

/-- The bytes of the buffer once phase 1 has filled it: the waiting tail, then the first new bytes (rule R131). -/
theorem State.filled_bytes (d : List Byte) (s : State) (h : 64 ≤ s.fill.toNat + d.length) :
    (s.filled d).buf.toList = s.tail ++ d.take (64 - s.fill.toNat) := by
  have hlt := s.fill.isLt
  have hl : (d.take (64 - s.fill.toNat)).length = 64 - s.fill.toNat := by rw [List.length_take]; omega
  rw [State.filled, writeBytes_toList _ _ _ (by omega), hl]
  have e : List.drop (s.fill.toNat + (64 - s.fill.toNat)) s.buf.toList = [] :=
    List.drop_eq_nil_of_le (by simp; omega)
  rw [e, List.append_nil]
  rfl

/-! ## Phase 2 -/

section AbsorbChunks
variable (q : Nat) (d : List Byte) (s : State)

/-- Phase 2 compresses the chunks in order (rule R132). -/
theorem State.absorbChunks_h : (State.absorbChunks q d s).h = hashBlocks s.sbox s.h q d := by
  induction q generalizing d s with
  | zero => rfl
  | succ q ih => rw [State.absorbChunks, ih, hashBlocks_succ]; simp [blockOf]

/-- Phase 2 counts 64 bytes a chunk (rules R132, R135). -/
theorem State.absorbChunks_len : (State.absorbChunks q d s).len = s.len + BitVec.ofNat 64 (64 * q) := by
  induction q generalizing d s with
  | zero => simp [State.absorbChunks]
  | succ q ih =>
    rw [State.absorbChunks, ih]
    apply BitVec.eq_of_toNat_eq
    simp
    omega

/-- Phase 2 draws once a chunk. -/
theorem State.absorbChunks_fresh : (State.absorbChunks q d s).fresh = s.fresh + q := by
  induction q generalizing d s with
  | zero => rfl
  | succ q ih => rw [State.absorbChunks, ih]; simp; omega

/-- Phase 2 leaves the sequencer idle once it has compressed anything. -/
theorem State.absorbChunks_seq : (State.absorbChunks q d s).seq = if q = 0 then s.seq else none := by
  induction q generalizing d s with
  | zero => rfl
  | succ q ih => rw [State.absorbChunks, ih]; simp

/-- `buf` is neither read nor written in phase 2 (rule R132). -/
@[simp] theorem State.absorbChunks_buf : (State.absorbChunks q d s).buf = s.buf := by
  induction q generalizing d s with
  | zero => rfl
  | succ q ih => rw [State.absorbChunks, ih]; simp

@[simp] theorem State.absorbChunks_fill : (State.absorbChunks q d s).fill = s.fill := by
  induction q generalizing d s with
  | zero => rfl
  | succ q ih => rw [State.absorbChunks, ih]; simp

@[simp] theorem State.absorbChunks_done : (State.absorbChunks q d s).done = s.done := by
  induction q generalizing d s with
  | zero => rfl
  | succ q ih => rw [State.absorbChunks, ih]; simp

@[simp] theorem State.absorbChunks_sbox : (State.absorbChunks q d s).sbox = s.sbox := by
  induction q generalizing d s with
  | zero => rfl
  | succ q ih => rw [State.absorbChunks, ih]; simp

@[simp] theorem State.absorbChunks_input : (State.absorbChunks q d s).input = s.input := by
  induction q generalizing d s with
  | zero => rfl
  | succ q ih => rw [State.absorbChunks, ih]; simp

@[simp] theorem State.absorbChunks_responses : (State.absorbChunks q d s).responses = s.responses := by
  induction q generalizing d s with
  | zero => rfl
  | succ q ih => rw [State.absorbChunks, ih]; simp

@[simp] theorem State.absorbChunks_resetLine : (State.absorbChunks q d s).resetLine = s.resetLine := by
  induction q generalizing d s with
  | zero => rfl
  | succ q ih => rw [State.absorbChunks, ih]; simp

@[simp] theorem State.absorbChunks_testWord : (State.absorbChunks q d s).testWord = s.testWord := by
  induction q generalizing d s with
  | zero => rfl
  | succ q ih => rw [State.absorbChunks, ih]; simp

end AbsorbChunks

/-! ## Phase 3 -/

/-- Everything phase 3 does: the leftover bytes go to the front of the buffer (rule R133); with none, nothing. -/
theorem State.storeLeftover_eq (r : List Byte) (s : State) :
    State.storeLeftover r s =
      if r = [] then s
      else { s with
        buf := writeBytes s.buf 0 r
        fill := BitVec.ofNat 6 r.length
        len := s.len + BitVec.ofNat 64 r.length } := rfl

section StoreLeftover
variable (r : List Byte) (s : State)

@[simp] theorem State.storeLeftover_h : (State.storeLeftover r s).h = s.h := by
  unfold State.storeLeftover; split <;> rfl
@[simp] theorem State.storeLeftover_done : (State.storeLeftover r s).done = s.done := by
  unfold State.storeLeftover; split <;> rfl
@[simp] theorem State.storeLeftover_x : (State.storeLeftover r s).x = s.x := by
  unfold State.storeLeftover; split <;> rfl
@[simp] theorem State.storeLeftover_saved : (State.storeLeftover r s).saved = s.saved := by
  unfold State.storeLeftover; split <;> rfl
@[simp] theorem State.storeLeftover_seq : (State.storeLeftover r s).seq = s.seq := by
  unfold State.storeLeftover; split <;> rfl
@[simp] theorem State.storeLeftover_sbox : (State.storeLeftover r s).sbox = s.sbox := by
  unfold State.storeLeftover; split <;> rfl
@[simp] theorem State.storeLeftover_source : (State.storeLeftover r s).source = s.source := by
  unfold State.storeLeftover; split <;> rfl
@[simp] theorem State.storeLeftover_input : (State.storeLeftover r s).input = s.input := by
  unfold State.storeLeftover; split <;> rfl
@[simp] theorem State.storeLeftover_responses : (State.storeLeftover r s).responses = s.responses := by
  unfold State.storeLeftover; split <;> rfl
@[simp] theorem State.storeLeftover_resetLine : (State.storeLeftover r s).resetLine = s.resetLine := by
  unfold State.storeLeftover; split <;> rfl
@[simp] theorem State.storeLeftover_testWord : (State.storeLeftover r s).testWord = s.testWord := by
  unfold State.storeLeftover; split <;> rfl
@[simp] theorem State.storeLeftover_fresh : (State.storeLeftover r s).fresh = s.fresh := by
  unfold State.storeLeftover; split <;> rfl

theorem State.storeLeftover_len : (State.storeLeftover r s).len = s.len + BitVec.ofNat 64 r.length := by
  unfold State.storeLeftover; split <;> simp_all

/-- After phase 3 on an empty buffer, the waiting tail is the leftover (rule R133). -/
theorem State.storeLeftover_tail (hr : r.length < 64) (hs : s.fill = 0) :
    (State.storeLeftover r s).tail = r ∧ (State.storeLeftover r s).fill = BitVec.ofNat 6 r.length := by
  by_cases h : r = []
  · subst h
    simp [State.storeLeftover, hs, State.tail]
  · have e : (State.storeLeftover r s).fill = BitVec.ofNat 6 r.length := by simp [State.storeLeftover, h]
    refine ⟨?_, e⟩
    have b : (State.storeLeftover r s).buf = writeBytes s.buf 0 r := by simp [State.storeLeftover, h]
    have n : (BitVec.ofNat 6 r.length).toNat = r.length := by simp; omega
    rw [State.tail, e, b, n, writeBytes_toList _ _ _ (by omega)]
    simp

end StoreLeftover

end Sys2Proof.Machine
end

