-- ==== Sys2Proof/Laws/Exec.lean ====
section
/-!
SUPPORT. What each meaning answers and when (rules R14, R171): `exec` form by form, the guards, what is known of a
meaning that answered a next state, and the fields that a command leaves alone.
-/
namespace Sys2Proof.Machine

/-! ## exec, form by form -/

@[simp] theorem exec_reset (s : State) : exec .reset s = execReset s := rfl
@[simp] theorem exec_update (d : List Byte) (s : State) : exec (.update d) s = execUpdate d s := rfl
@[simp] theorem exec_finalize (s : State) : exec .finalize s = execFinalize s := rfl
@[simp] theorem exec_loadx (s : State) : exec .loadx s = execLoadx s := rfl
@[simp] theorem exec_save (s : State) : exec .save s = execSave s := rfl
@[simp] theorem exec_round (m rot : BitVec 2) (w : BitVec 3) (s : State) :
    exec (.round m rot w) s = execRound m rot w s := rfl
@[simp] theorem exec_keysched (s : State) : exec .keysched s = execKeysched s := rfl
@[simp] theorem exec_feedfwd (s : State) : exec .feedfwd s = execFeedfwd s := rfl

/-! ## Guards -/

/-- The guard with `done = 0` (rule R171). -/
theorem unlessDone_clear (s : State) (k : State → Host.Outcome State Fault Refusal) (h : s.done = false) :
    unlessDone s k = k s := by
  simp [unlessDone, h]

/-- The guard with `done = 1` (rule R171). -/
theorem unlessDone_set (s : State) (k : State → Host.Outcome State Fault Refusal) (h : s.done = true) :
    unlessDone s k = .refused .afterFinalize := by
  simp [unlessDone, h]

/-- A field that is not 3 is legal (rules R82, R83). -/
theorem legalField_lt (f : BitVec 2) (h : f ≠ 3) : f.toNat < 3 := by
  have lt := f.isLt
  have ne : f.toNat ≠ 3 := fun e => h (BitVec.eq_of_toNat_eq e)
  omega

theorem legalField_legal (f : BitVec 2) (h : f ≠ 3) : legalField f = some ⟨f.toNat, legalField_lt f h⟩ := by
  simp [legalField, legalField_lt f h]

/-- The reserved value 3 (rule R85). -/
theorem legalField_reserved : legalField 3 = none := by simp [legalField]

/-! ## What is known of a meaning that answered a next state -/

/-- An `UPDATE` that completed (rules R134, R171). -/
theorem execUpdate_inv (d : List Byte) (s t : State) (h : execUpdate d s = .next t) :
    s.done = false ∧ s.len.toNat + d.length ≤ Config.maxLen ∧ t = s.absorb d := by
  unfold execUpdate unlessDone at h
  split at h
  · cases h
  · rename_i hd
    dsimp only at h
    split at h
    · cases h
    · rename_i hl
      cases h
      exact ⟨by simpa using hd, by omega, rfl⟩

/-- A `FINALIZE` that completed (rules R156, R171). -/
theorem execFinalize_inv (s t : State) (h : execFinalize s = .next t) :
    s.done = false ∧ t = s.padAndCompress.respond.setDone.forgetMessage := by
  unfold execFinalize unlessDone at h
  split at h
  · cases h
  · rename_i hd
    cases h
    exact ⟨by simpa using hd, rfl⟩

/-- A `ROUND` that completed (rules R85, R103). -/
theorem execRound_inv (m rot : BitVec 2) (w : BitVec 3) (s t : State) (h : execRound m rot w s = .next t) :
    ∃ m' rot', legalField m = some m' ∧ legalField rot = some rot' ∧ t = s.roundStep m' rot' (wordIndex w) := by
  unfold execRound at h
  split at h
  · rename_i m' rot' hm hr
    cases h
    exact ⟨m', rot', hm, hr, rfl⟩
  · cases h

/-! ## The sequencer -/

/-- `advanceSeq` moves a running sequencer by one (rules R29, R87), whatever else changed before it. -/
theorem seqPlusOne_advanceSeq (s s' : State) (hq : s'.seq = s.seq) : SeqPlusOne s s'.advanceSeq := by
  intro k h hk
  rw [State.advanceSeq_running _ k (by rw [hq, hk])]
  simp only [seqNext]
  rw [dif_pos (by omega)]

/-! ## The fields that UPDATE leaves alone (rule R33) -/

section Absorb
variable (d : List Byte) (s : State)

@[simp] theorem State.topUp_done : (s.topUp d).done = s.done := by
  unfold State.topUp
  split
  · rfl
  · dsimp only; split <;> simp
@[simp] theorem State.topUp_sbox : (s.topUp d).sbox = s.sbox := by
  unfold State.topUp
  split
  · rfl
  · dsimp only; split <;> simp
@[simp] theorem State.topUp_input : (s.topUp d).input = s.input := by
  unfold State.topUp
  split
  · rfl
  · dsimp only; split <;> simp
@[simp] theorem State.topUp_responses : (s.topUp d).responses = s.responses := by
  unfold State.topUp
  split
  · rfl
  · dsimp only; split <;> simp
@[simp] theorem State.topUp_resetLine : (s.topUp d).resetLine = s.resetLine := by
  unfold State.topUp
  split
  · rfl
  · dsimp only; split <;> simp
@[simp] theorem State.topUp_testWord : (s.topUp d).testWord = s.testWord := by
  unfold State.topUp
  split
  · rfl
  · dsimp only; split <;> simp

@[simp] theorem State.absorb_done : (s.absorb d).done = s.done := by simp [State.absorb]
@[simp] theorem State.absorb_sbox : (s.absorb d).sbox = s.sbox := by simp [State.absorb]
@[simp] theorem State.absorb_input : (s.absorb d).input = s.input := by simp [State.absorb]
@[simp] theorem State.absorb_responses : (s.absorb d).responses = s.responses := by simp [State.absorb]
@[simp] theorem State.absorb_resetLine : (s.absorb d).resetLine = s.resetLine := by simp [State.absorb]
@[simp] theorem State.absorb_testWord : (s.absorb d).testWord = s.testWord := by simp [State.absorb]

end Absorb

/-! ## Refused steps -/

/-- A step that finds something without a meaning is refused (rule R171). -/
theorem step_of_fetch_reject (s : State) (r : Refusal) (h : fetch s = .reject r) : step s = .refused r := by
  simp [step, h]

end Sys2Proof.Machine
end

