-- ==== Sys2Proof/Laws/PerInstr.lean ====
section
/-!
SUPPORT. One lemma per constructor of `Instr`: the shape of the instruction's encoding (rules R75, R76, R77, R81).
-/
namespace Sys2Proof.Laws.EncodingShape

open Sys2Proof Sys2Proof.Machine

/-- How many bytes a command sends after its opcode byte: an `UPDATE` eight for `n` and the payload, the others none
(rules R76, R77). -/
def operandBytes : Instr → Nat
  | .reset => 0
  | .update d => 8 + d.length
  | .finalize => 0
  | .loadx => 0
  | .save => 0
  | .round _ _ _ => 0
  | .keysched => 0
  | .feedfwd => 0

/-- A command is an opcode byte 01, 02 or 03 and its operand bytes; a micro-operation is a control word whose bits
9 to 7 are 0 to 4. -/
def Statement (i : Instr) : Prop :=
  match encode i with
  | .command bytes =>
    isCommand i = true ∧ bytes.length = 1 + operandBytes i ∧
      ∃ op ∈ [0x01#8, 0x02#8, 0x03#8], bytes.head? = some op
  | .uop u => isCommand i = false ∧ (u.extractLsb' 7 3).toNat ≤ 4

theorem reset : Statement .reset := ⟨rfl, rfl, _, by decide, rfl⟩

theorem update (d : List Byte) : Statement (.update d) := by
  refine ⟨rfl, ?_, 0x02#8, by decide, rfl⟩
  simp [le64, operandBytes]
  omega

theorem finalize : Statement .finalize := ⟨rfl, rfl, _, by decide, rfl⟩

theorem loadx : Statement .loadx := ⟨rfl, by decide⟩

theorem save : Statement .save := ⟨rfl, by decide⟩

theorem round (m rot : BitVec 2) (w : BitVec 3) : Statement (.round m rot w) := by
  refine ⟨rfl, ?_⟩
  revert m rot w
  decide +kernel

theorem keysched : Statement .keysched := ⟨rfl, by decide⟩

theorem feedfwd : Statement .feedfwd := ⟨rfl, by decide⟩

end Sys2Proof.Laws.EncodingShape
end

