-- ==== Sys2Proof/Tests/Slice0.lean ====
section
/-!
SUPPORT. The model's own tests, each on one step or one decode, their expected values taken from
spec/95_test_vectors.md, spec/30_encoding.md and spec/opcode_table.json; and a witness for every statement that has
hypotheses. "Section" means a section of spec/95_test_vectors.md.
-/
namespace Sys2Proof.Tests

set_option Elab.async false

open Sys2Proof Sys2Proof.Machine

/-! ## Helpers -/

/-- The bytes `0, 1, ..., n - 1`, the message `P(n)` of spec/95_test_vectors.md. -/
def bytesP (n : Nat) : List Byte := (List.range n).map (BitVec.ofNat 8)

/-- An idle engine with the bytes of `P(64)` in the buffer, of which `f` count, and total length `n`. -/
def st (f : BitVec 6) (n : Word) : State where
  h := Config.iv
  buf := blockOfList (bytesP 64)
  fill := f
  len := n
  done := false
  x := #v[0, 0, 0, 0, 0, 0, 0, 0]
  saved := Config.iv
  seq := none
  sbox := sboxTable
  source := .buffer
  input := []
  responses := []
  resetLine := false
  testWord := none
  fresh := 1

/-- The outcome is a next state that passes the check. -/
def nextIs (o : Host.Outcome State Fault Refusal) (p : State → Bool) : Bool :=
  match o with
  | .next t => p t
  | .fault _ => false
  | .refused _ => false

/-- The outcome is the refusal `r`. -/
def refusedIs (o : Host.Outcome State Fault Refusal) (r : Refusal) : Bool :=
  match o with
  | .next _ => false
  | .fault _ => false
  | .refused q => decide (q = r)

/-! ## WellFormed: one ill-formed term for each check -/

/-- `m = 3` is reserved (rule R85). -/
theorem test_wellFormed_round_m : (Instr.round 3 0 0).wellFormed = false := by decide

/-- `rot = 3` is reserved (rule R85). -/
theorem test_wellFormed_round_rot : (Instr.round 0 3 0).wellFormed = false := by decide

/-- A payload of 2^64 bytes has no length operand (rule R77). -/
theorem test_wellFormed_update : (Instr.update (List.replicate (2 ^ 64) 0)).wellFormed = false := by
  simp only [Instr.wellFormed, List.length_replicate]
  decide

/-- The largest fields are legal (rules R82, R83, R84). -/
theorem test_wellFormed_good :
    (Instr.round 2 2 7).wellFormed = true ∧ (Instr.update [0x61]).wellFormed = true := by decide

/-! ## Decoding, word by word (section 7) -/

/-- Section 7.1: `01`. -/
theorem test_decode_reset : decodeCommand [0b00000001#8] = .ok (.reset, []) := by rfl

/-- Section 7.1: `03`; what follows is left in the stream. -/
theorem test_decode_finalize : decodeCommand [0b00000011#8, 0x04#8] = .ok (.finalize, [0x04#8]) := by rfl

/-- Section 7.1: `02 03 00 00 00 00 00 00 00 61 62 63` is `UPDATE` of "abc". -/
theorem test_decode_update :
    decodeCommand [0b00000010#8, 3, 0, 0, 0, 0, 0, 0, 0, 0x61, 0x62, 0x63] =
      .ok (.update [0x61, 0x62, 0x63], []) := by rfl

/-- Section 7.1: the last byte but one is payload, not a `FINALIZE`. -/
theorem test_decode_update_then_finalize :
    decodeCommand [0x02, 1, 0, 0, 0, 0, 0, 0, 0, 0x03, 0x03] = .ok (.update [0x03], [0x03]) := by rfl

/-- Section 7.1: `n` is little-endian: `00 01 00 ...` is 256, and 255 bytes do not suffice. -/
theorem test_decode_update_length_order :
    decodeCommand ([0x02, 0, 1, 0, 0, 0, 0, 0, 0] ++ bytesP 255) = .error .truncatedCommand ∧
    decodeCommand ([0x02, 0, 1, 0, 0, 0, 0, 0, 0] ++ (bytesP 255 ++ [7, 9])) =
      .ok (.update (bytesP 255 ++ [7]), [9]) := by
  decide +kernel

/-- Section 7.1: the opcodes `00`, `04`, `7F`, `80`, `FF`. -/
theorem test_decode_reserved_opcodes :
    [0x00, 0x04, 0x7F, 0x80, 0xFF].map (fun op => decodeCommand [op]) =
      List.replicate 5 (.error .reservedOpcode) := by rfl

/-- Section 7.1: a cut header and a cut payload. -/
theorem test_decode_truncated :
    decodeCommand [0x02, 3, 0, 0, 0] = .error .truncatedCommand ∧
    decodeCommand [0x02, 3, 0, 0, 0, 0, 0, 0, 0, 0x61, 0x62] = .error .truncatedCommand := ⟨rfl, rfl⟩

/-- Section 7.2, the legal words. -/
theorem test_decode_control_words :
    [0b0000000000#10, 0b0010000000#10, 0b0100000000#10, 0b0100001001#10, 0b0101000111#10, 0b0101010111#10,
      0b0110000000#10, 0b1000000000#10].map decodeUop =
    [.ok .loadx, .ok .save, .ok (.round 0 0 0), .ok (.round 0 1 1), .ok (.round 2 0 7), .ok (.round 2 2 7),
      .ok .keysched, .ok .feedfwd] := by rfl

/-- Section 7.2, the reserved words. -/
theorem test_decode_reserved_words :
    [0x001#10, 0x081#10, 0x210#10, 0x160#10, 0x118#10, 0x17F#10, 0x280#10, 0x3FF#10].map decodeUop =
      List.replicate 8 (.error .reservedUop) := by rfl

/-- The opcode table's numbers: a control word has 10 bits, that is two bytes; a command is numbered byte by byte. -/
theorem test_decode_table_words :
    decodeTableWord 16 0x157 = some (.round 2 2 7) ∧ decodeTableWord 8 0x01 = some .reset ∧
    decodeTableWord 8 0x02 = some (.update []) ∧ decodeTableWord 72 0x0102 = some (.update [0]) ∧
    decodeTableWord 8 0x03 = some .finalize ∧ decodeTableWord 16 0x118 = none := by decide +kernel

/-- Rule R86, rows 3, 12 and 27 of the micro-program. -/
theorem test_micro_program_rows :
    microProgram[3] = 0b0100001001#10 ∧ microProgram[12] = 0b0100100001#10 ∧ microProgram[27] = 0b0101010111#10 := by
  decide

/-- Rule R89: 29 micro-operations; the sixth round of the pass with rotation 1 has rotation 0. -/
theorem test_compress_expansion : compressOps.length = 29 ∧ compressOps[25]? = some (.round 2 0 5) := by decide

/-- Section 3.3, the corner words of the groups of the table. -/
theorem test_sbox_corners :
    [sboxTable[0], sboxTable[255], sboxTable[256], sboxTable[511], sboxTable[512], sboxTable[767], sboxTable[768],
      sboxTable[1023]] =
    [0x02AAB17CF7E90C5E, 0xEBC18760ED78A77A, 0xE6A6BE5A05A12138, 0x22FAC097AA8D5C0E, 0xF49FCC2FF1DAF39B,
      0x6D0E60F5C3578A9E, 0x5B0E608526323C55, 0xC3A0396F7363A51F] := by decide +kernel

/-- Rule R88 and section 9: a script with a comment, a text payload, a hexadecimal payload and two micro-operations. -/
theorem test_assemble :
    assemble ("RESET\nUPDATE \"abc\"\n  -- a comment\nUPDATE x\"00 01FF\"   -- three bytes\nFINALIZE\nROUND 2, 0, 7\nPASS 1,2".toList) =
      some ([.reset, .update [0x61, 0x62, 0x63], .update [0x00, 0x01, 0xFF], .finalize, .round 2 0 7] ++
        [.round 1 2 0, .round 1 0 1, .round 1 1 2, .round 1 2 3, .round 1 0 4, .round 1 1 5, .round 1 2 6,
          .round 1 0 7]) := by
  decide +kernel

/-- The model's choice (log entry 23): `--` between quotes is payload, after the closing quote a comment. -/
theorem test_assemble_hyphens :
    assemble "UPDATE \"--\" -- a comment".toList = some [.update [0x2D, 0x2D]] := by decide +kernel

/-- A field out of range and an unknown mnemonic are no instruction. -/
theorem test_assemble_bad : assemble "ROUND 3,0,0".toList = none ∧ assemble "PUSH".toList = none := by decide +kernel

/-! ## Instructions, one step each -/

/-- Section 6.3 row 3: `RESET` with `done = 1`. -/
theorem test_reset :
    nextIs (exec .reset { st 9 9 with done := true, h := #v[1, 2, 3] })
      (fun t => t.h == #v[0x0123456789ABCDEF, 0xFEDCBA9876543210, 0xF096A5B4C3B2E187] && t.fill == 0 && t.len == 0 &&
        !t.done && t.buf[5] == 5) = true := by decide +kernel

/-- Section 3.4 row 1: `LOADX` of `P(64)` from the buffer. -/
theorem test_loadx_buffer :
    nextIs (exec .loadx { st 0 0 with seq := some 0 })
      (fun t => t.x == #v[0x0706050403020100, 0x0F0E0D0C0B0A0908, 0x1716151413121110, 0x1F1E1D1C1B1A1918,
          0x2726252423222120, 0x2F2E2D2C2B2A2928, 0x3736353433323130, 0x3F3E3D3C3B3A3938] &&
        t.seq == some 1) = true := by decide +kernel

/-- Section 3.4 row 5: `LOADX` from the payload; byte 63 is the most significant byte of word 7. -/
theorem test_loadx_payload :
    nextIs (exec .loadx { st 0 0 with source := .payload (blockOfList (List.replicate 63 0 ++ [0x80])) })
      (fun t => t.x == #v[0, 0, 0, 0, 0, 0, 0, 0x8000000000000000]) = true := by decide +kernel

/-- Section 3.4 row 6: `SAVE`. -/
theorem test_save :
    nextIs (exec .save { st 0 0 with saved := #v[7, 8, 9], seq := some 1 })
      (fun t => t.saved == #v[0x0123456789ABCDEF, 0xFEDCBA9876543210, 0xF096A5B4C3B2E187] && t.h == Config.iv &&
        t.seq == some 2) = true := by decide +kernel

/-- Section 3.3 row 7: `ROUND 1, 1, 3`. -/
theorem test_round_rot_1 :
    nextIs (exec (.round 1 1 3) { st 0 0 with x := #v[0, 0, 0, 0x0706050403020100, 0, 0, 0, 0], seq := some 13 })
      (fun t => t.h == #v[0x062540638AA9CCEF, 0x7CCB35786E5A82A4, 0x67F3349BB132511E] && t.seq == some 14) = true := by
  decide +kernel

/-- Section 3.3 row 8: `ROUND 2, 2, 7`. -/
theorem test_round_rot_2 :
    nextIs (exec (.round 2 2 7) { st 0 0 with x := #v[0, 0, 0, 0, 0, 0, 0, 0x8000000000000000] })
      (fun t => t.h == #v[0xBDD5E311556D5FFF, 0x7EDCBA9876543210, 0xC664517D8CCDA006]) = true := by
  decide +kernel

/-- Section 4.1: `KEYSCHED` of the words of `P(64)`. -/
theorem test_keysched :
    nextIs (exec .keysched { st 0 0 with x := blockWords (blockOfList (bytesP 64)), seq := some 10 })
      (fun t => t.x == #v[0xDC6330839D136D47, 0x600F5672499D0024, 0x1A752008CBE77E5F, 0xAADC4A5ED02718FC,
          0x0C64C3DC6184C529, 0xEA0BFF4233C321CC, 0x3AD2F867374E53A8, 0x3407071879CB6A9D] &&
        t.seq == some 11) = true := by decide +kernel

/-- Section 4.3 row 1: on all ones an arithmetic right shift would go wrong. -/
theorem test_keysched_logical_shift :
    keySchedule (Vector.replicate 8 0xFFFFFFFFFFFFFFFF) =
      #v[0x1D1D1C0C0C08F0EE, 0x08888970B0A1696C, 0x52D2D32AEAFB3335, 0xDB5B5BB37388D8DB, 0x9C1C1C8E4DA0E768,
        0xEB6B6BF93AD2BD30, 0x73F3F592D46F71E6, 0x04A6C571089E8F40] := by decide +kernel

/-- Section 3.4 row 7: `FEEDFWD`, the last step of the empty message; the sequencer goes idle. -/
theorem test_feedfwd :
    nextIs (exec .feedfwd { st 0 0 with h := #v[0x25D3566BEA075EDD, 0x14F3290F280FC46F, 0x02DD387885A56CF3],
                                        seq := some 28 })
      (fun t => t.h == #v[0x24F0130C63AC9332, 0x16166E76B1BB925F, 0xF373DE2D49584E7A] && t.seq == none) = true := by
  decide +kernel

/-- Section 3.4 row 9: `FEEDFWD`, exclusive or to zero, borrow, carry. -/
theorem test_feedfwd_wraps :
    nextIs (exec .feedfwd { st 0 0 with h := #v[0xFFFFFFFFFFFFFFFF, 0, 0xFFFFFFFFFFFFFFFF],
                                        saved := #v[0xFFFFFFFFFFFFFFFF, 1, 1] })
      (fun t => t.h == #v[0, 0xFFFFFFFFFFFFFFFF, 0]) = true := by decide +kernel

/-- Section 5.1 row 8: 130 bytes at `fill = 63`: three compressions (draws), one byte left, the last of the
payload. -/
theorem test_update_three_phases :
    nextIs (exec (.update (bytesP 129 ++ [0xAB])) (st 63 63))
      (fun t => t.fill == 1 && t.len == 193 && t.fresh == 4 && t.buf[0] == 0xAB && t.buf[63] == 0 &&
        t.buf[1] == 1) = true := by decide +kernel

/-- Section 5.1 row 4: a top-up that does not fill the buffer. -/
theorem test_update_top_up :
    nextIs (exec (.update (bytesP 10)) (st 3 3))
      (fun t => t.fill == 13 && t.len == 13 && t.fresh == 1 && t.buf[2] == 2 && t.buf[3] == 0 && t.buf[12] == 9 &&
        t.buf[13] == 13) = true := by decide +kernel

/-- Sections 1.1 and 6.1: `FINALIZE` of the empty message, whatever the buffer holds. -/
theorem test_finalize_empty :
    nextIs (exec .finalize (st 0 0))
      (fun t => t.responses == [[0x32, 0x93, 0xAC, 0x63, 0x0C, 0x13, 0xF0, 0x24, 0x5F, 0x92, 0xBB, 0xB1, 0x76, 0x6E,
          0x16, 0x16, 0x7A, 0x4E, 0x58, 0x49, 0x2D, 0xDE, 0x73, 0xF3]] && t.done) = true := by decide +kernel

/-- Section 6.1, `P(56)`: the first of the two blocks, and the length field of the second. -/
theorem test_finalize_two_blocks :
    (st 56 56).padTail.buf.toList = bytesP 56 ++ [0x01, 0, 0, 0, 0, 0, 0, 0] ∧
    le64 (st 56 56).bitLength = [0xC0, 0x01, 0, 0, 0, 0, 0, 0] ∧
    nextIs (exec .finalize (st 56 56)) (fun t => t.fresh == 4) = true := by decide +kernel

/-! ## Steps -/

/-- From reset, a `RESET` placed where the next step fetches runs (rule R159). -/
theorem test_step_reset :
    nextIs (step (State.reset.withFetchWord 8 0x01)) (fun t => t.h == Config.iv && t.input == [] && !t.done) = true := by
  decide +kernel

/-- From reset, a `SAVE` placed where the next step fetches runs (rule R102). -/
theorem test_step_save :
    nextIs (step (State.reset.withFetchWord 16 0x080)) (fun t => t.saved == Config.iv && t.testWord == none) = true := by
  decide +kernel

/-- Section 7.1, `03 04`, on an engine that is done: the decode refusal comes first (rule R173). -/
theorem test_step_decode_refusal_first :
    refusedIs (step { st 0 0 with done := true, input := [0x04] }) .reservedOpcode = true ∧
    refusedIs (step { st 0 0 with done := true, input := [0x03, 0x04] }) .afterFinalize = true := by decide +kernel

/-! ## Witnesses: for every statement with hypotheses, states and operands that meet them -/

/-- `DecodeOfEncode`, `AssembleOfText`. -/
theorem witness_wellFormed :
    (Instr.round 2 2 7).wellFormed = true ∧ (Instr.update []).wellFormed = true ∧
    (Instr.update [0x61]).wellFormed = true ∧ Instr.feedfwd.wellFormed = true := by decide

/-- `EncodeOfDecodedUop`, `EncodeOfDecodedCommand`, and `ReservedControlWords`. -/
theorem witness_decodes :
    decodeUop 0x157 = .ok (.round 2 2 7) ∧ decodeCommand [0x03, 0x07] = .ok (.finalize, [0x07]) ∧
    decodeUop 0x118 = .error .reservedUop := ⟨rfl, rfl, rfl⟩

/-- `StepRunsTheCommand`; the third disjunct of `StepRefusesExactlyWhen` with `done` set. -/
theorem witness_command (b : Bool) :
    State.Idle { st 0 0 with input := [0x03, 0x07], done := b } ∧
    ({ st 0 0 with input := [0x03, 0x07], done := b } : State).input ≠ [] ∧
    decodeCommand ({ st 0 0 with input := [0x03, 0x07], done := b } : State).input = .ok (.finalize, [0x07]) :=
  ⟨⟨rfl, rfl, rfl⟩, List.cons_ne_nil _ _, rfl⟩

/-- `StepRunsTheMicroOperation`, `SequencerCounts`: the first, the last but one and the last step. -/
theorem witness_sequencer (k : Fin 29) :
    ({ st 0 0 with seq := some k } : State).resetLine = false ∧
    ({ st 0 0 with seq := some k } : State).testWord = none ∧ ({ st 0 0 with seq := some k } : State).seq = some k ∧
    decodeUop microProgram[(0 : Fin 29)] = .ok .loadx ∧ decodeUop microProgram[(27 : Fin 29)] = .ok (.round 2 2 7) ∧
    decodeUop microProgram[(28 : Fin 29)] = .ok .feedfwd := ⟨rfl, rfl, rfl, rfl, rfl, rfl⟩

/-- `StepRunsTheWordUnderTest`; the first disjunct of `StepRefusesExactlyWhen`. -/
theorem witness_test_word :
    ({ st 0 0 with testWord := some 0x080 } : State).resetLine = false ∧
    ({ st 0 0 with testWord := some 0x080 } : State).testWord = some 0x080 ∧ decodeUop 0x080 = .ok .save ∧
    ({ st 0 0 with testWord := some 0x3FF } : State).testWord = some 0x3FF ∧
    decodeUop 0x3FF = .error .reservedUop := ⟨rfl, rfl, rfl, rfl, rfl⟩

/-- `StepWaitsForACommand`. -/
theorem witness_wait : (st 0 0).Idle ∧ (st 0 0).input = [] := ⟨⟨rfl, rfl, rfl⟩, rfl⟩

/-- `PlacedWordRuns`, at both levels. -/
theorem witness_placed :
    decodeTableWord 16 0x200 = some .feedfwd ∧ decodeTableWord 8 0x02 = some (.update []) ∧
    decodeTableWord 72 0x0102 = some (.update [0]) := by decide +kernel

/-- `ReservedOpcodeRefused`, at the edges of the reserved ranges; the second disjunct of `StepRefusesExactlyWhen`. -/
theorem witness_reserved_opcode (op : Byte) (h : op = 0x00#8 ∨ op = 0x04#8 ∨ op = 0xFF#8) :
    State.Idle { st 0 0 with input := [op] } ∧ ({ st 0 0 with input := [op] } : State).input = op :: [] ∧
    op ≠ 0x01#8 ∧ op ≠ 0x02#8 ∧ op ≠ 0x03#8 ∧ decodeCommand [op] = .error .reservedOpcode := by
  refine ⟨⟨rfl, rfl, rfl⟩, rfl, ?_⟩
  rcases h with h | h | h <;> subst h <;> decide +kernel

/-- `TruncatedUpdateRefused`: a header of seven bytes, and a whole header without its one payload byte. -/
theorem witness_truncated :
    (State.Idle { st 0 0 with input := [0x02, 0, 0, 0, 0, 0, 0, 0] } ∧
      (List.replicate 7 (0 : Byte)).length < 8) ∧
    (State.Idle { st 0 0 with input := [0x02, 1, 0, 0, 0, 0, 0, 0, 0] } ∧
      (([1, 0, 0, 0, 0, 0, 0, 0] : List Byte).drop 8).length < leNat (([1, 0, 0, 0, 0, 0, 0, 0] : List Byte).take 8)) :=
  ⟨⟨⟨rfl, rfl, rfl⟩, by decide⟩, ⟨rfl, rfl, rfl⟩, by decide⟩

/-- `ExecCompletesOrRefuses`: an instruction with no refusal and one with each (rule R171). -/
theorem witness_refusals :
    refusalFor (st 62 (2 ^ 61 - 2)) (.update [0]) = none ∧
    refusalFor (st 63 (2 ^ 61 - 1)) (.update [0]) = some .lengthOverflow ∧
    refusalFor { st 63 (2 ^ 61 - 1) with done := true } (.update [0]) = some .afterFinalize ∧
    refusalFor { st 0 0 with done := true } .finalize = some .afterFinalize ∧
    refusalFor (st 0 0) (.round 0 3 0) = some .reservedUop := by decide +kernel

/-- `HardwareResetAbandons`, in the middle of a `COMPRESS`. -/
theorem witness_reset_line : ({ st 0 0 with resetLine := true, seq := some 14 } : State).resetLine = true := rfl

/-- `LoadxLoadsLittleEndianWords`: both sources; `SeqPlusOne` at its upper edge. -/
theorem witness_loadx :
    (st 0 0).source = .buffer ∧
    ({ st 0 0 with source := .payload (blockOfList (bytesP 64)) } : State).source = .payload (blockOfList (bytesP 64)) ∧
    ({ st 0 0 with seq := some 27 } : State).seq = some 27 ∧ (27 : Fin 29).val < 28 := ⟨rfl, rfl, rfl, by decide⟩

/-- `RoundMixesTheHashState`: the three rotations, with the largest `m`. -/
theorem witness_round :
    (2#2 : BitVec 2) ≠ 3 ∧ (0#2 : BitVec 2) ≠ 3 ∧ (1#2 : BitVec 2) ≠ 3 ∧
    ((0 : Fin 3).val = (0#2 : BitVec 2).toNat ∧ (1 : Fin 3).val = ((0#2 : BitVec 2).toNat + 1) % 3 ∧
      (2 : Fin 3).val = ((0#2 : BitVec 2).toNat + 2) % 3) ∧
    ((1 : Fin 3).val = (1#2 : BitVec 2).toNat ∧ (2 : Fin 3).val = ((1#2 : BitVec 2).toNat + 1) % 3 ∧
      (0 : Fin 3).val = ((1#2 : BitVec 2).toNat + 2) % 3) ∧
    ((2 : Fin 3).val = (2#2 : BitVec 2).toNat ∧ (0 : Fin 3).val = ((2#2 : BitVec 2).toNat + 1) % 3 ∧
      (1 : Fin 3).val = ((2#2 : BitVec 2).toNat + 2) % 3) := by decide

/-- `RoundWithReservedFieldRefused`: either field. -/
theorem witness_round_reserved :
    ((3#2 : BitVec 2) = 3 ∨ (0#2 : BitVec 2) = 3) ∧ ((0#2 : BitVec 2) = 3 ∨ (3#2 : BitVec 2) = 3) := by decide

/-- `MicroOperationFrame`. -/
theorem witness_micro_frame : isCommand .save = false ∧ exec .save (st 0 0) = .next (st 0 0).saveH := ⟨rfl, rfl⟩

/-- `SequencerOutsideTheMicroProgram`: both clauses. -/
theorem witness_outside :
    Instr.save ≠ .feedfwd ∧ exec .save { st 0 0 with seq := some 28 } = .next { st 0 0 with seq := none } ∧
    ({ st 0 0 with seq := some 28 } : State).seq = some 28 ∧ (st 0 0).seq = none := ⟨by decide, rfl, rfl, rfl⟩

/-- `MicroProgramComputesCompress`. -/
theorem witness_two_levels : (st 0 0).resetLine = false ∧ (st 0 0).testWord = none := ⟨rfl, rfl⟩

/-- `UpdateClosedForm`, `UpdateCountsEveryByteOnce`, `UpdateFrame`, `UpdateIsByteSerial`, `CompressionCounts`: one
byte up to MAXLEN, and a payload that fills the buffer. -/
theorem witness_update :
    ((st 62 (2 ^ 61 - 2)).done = false ∧ (st 62 (2 ^ 61 - 2)).len.toNat + ([7] : List Byte).length ≤ 2 ^ 61 - 1) ∧
    ((st 63 63).done = false ∧ (st 63 63).len.toNat + (bytesP 130).length ≤ 2 ^ 61 - 1) := by decide +kernel

/-- The clauses of `UpdateFrame`: a byte below `fill` is not stored to, and 60 bytes at `fill = 3` complete no block
while 61 do; the hypotheses of `ShortUpdateAppendsAtFill`. -/
theorem witness_update_frame :
    ¬ updateStores 3 60 2 ∧ (st 3 3).fill.toNat + (bytesP 60).length < 64 ∧
    ¬ (st 3 3).fill.toNat + (bytesP 61).length < 64 ∧ (st 3 3).done = false ∧
    (st 3 3).len.toNat + (bytesP 60).length ≤ 2 ^ 61 - 1 := by
  refine ⟨?_, by decide +kernel⟩
  unfold updateStores
  decide +kernel

/-- `EmptyUpdateIsIdentity`, at MAXLEN. -/
theorem witness_empty_update : (st 63 (2 ^ 61 - 1)).done = false ∧ (st 63 (2 ^ 61 - 1)).len.toNat ≤ 2 ^ 61 - 1 := by
  decide +kernel

/-- `UpdateGuards`, `FinalizeRefusedAfterFinalize`: `done` set; one byte too many. -/
theorem witness_update_guards :
    ({ st 0 0 with done := true } : State).done = true ∧ (st 63 (2 ^ 61 - 1)).done = false ∧
    2 ^ 61 - 1 < (st 63 (2 ^ 61 - 1)).len.toNat + ([7] : List Byte).length := by decide +kernel

/-- `ChunkInvariance`. -/
theorem witness_chunks :
    (st 3 3).done = false ∧ (st 3 3).len.toNat + [bytesP 61, [], bytesP 64].flatten.length ≤ 2 ^ 61 - 1 := by
  decide +kernel

/-- `AbsorbOneByte`: the last byte of a block and the one before it. -/
theorem witness_absorb :
    ((st 63 63).done = false ∧ (st 63 63).len.toNat + 1 ≤ 2 ^ 61 - 1 ∧ (st 63 63).fill = 63) ∧
    ((st 62 62).done = false ∧ (st 62 62).len.toNat + 1 ≤ 2 ^ 61 - 1 ∧ (st 62 62).fill ≠ 63) := by decide +kernel

/-- `UpdatesAbsorbTheMessage`, `WholeMessageDigest`: no update, and updates with an empty one among them. -/
theorem witness_message :
    (([] : List (List Byte)).flatten).length ≤ 2 ^ 61 - 1 ∧
    ([[0x61], [], [0x62, 0x63]] : List (List Byte)).flatten.length ≤ 2 ^ 61 - 1 := by decide +kernel

/-- `FinalizePadsAndAnswers`, `DigestLayout`, `OnlyFinalizeAnswers`, `CompressionCounts`: one block up to `fill = 55`,
two from 56. -/
theorem witness_finalize :
    ((st 55 55).done = false ∧ (st 55 55).fill.toNat < 56) ∧ ((st 56 56).done = false ∧ 56 ≤ (st 56 56).fill.toNat) := by
  decide +kernel

/-- `PaddingIsMinimal`, second clause: no smaller number of zeros at 55, many at 56. -/
theorem witness_padding : padZeros 55 = 0 ∧ 62 < padZeros 56 ∧ 0 < padZeros 0 := by decide

/-- `StepKeepsInvariant`, `RomIsNeverWritten`: a state with the invariant and a `RESET` to run. -/
theorem witness_step :
    State.Inv { st 3 67 with input := [0x01] } ∧
    step { st 3 67 with input := [0x01] } = .next (st 3 67).clearMessage :=
  ⟨⟨fun _ => by decide +kernel, fun _ h => nomatch h⟩, rfl⟩

/-- `DoneLifeCycle`, `OnlyFinalizeAnswers`, `CommandsLeaveTheSequencerIdle`. -/
theorem witness_commands :
    exec .reset (st 3 3) = .next (st 3 3).clearMessage ∧ Instr.reset ≠ .finalize ∧ isCommand .reset = true ∧
    (st 3 3).Idle := ⟨rfl, by decide, rfl, rfl, rfl, rfl⟩

/-- `DeadStateIsInvisible`, `ResetEquivalence`: two absorbing states that differ beyond `fill`, two finished ones that
differ in `fill` and `len`. -/
theorem witness_dead :
    (st 1 1).LiveEq { st 1 1 with buf := blockOfList (List.replicate 64 0), x := Vector.replicate 8 5 } ∧
    State.LiveEq { st 1 1 with done := true } { st 9 8 with done := true } ∧
    [Instr.update [1], .finalize, .reset].all isCommand = true :=
  ⟨⟨rfl, rfl, rfl, fun _ => ⟨rfl, rfl, by decide +kernel⟩⟩, ⟨rfl, rfl, rfl, nofun⟩, rfl⟩

end Sys2Proof.Tests
end

section
/-!
SUPPORT. The scope family (spec/00_scope.md): when each meaning completes and when it is refused (rules R14, R171); what
a step that fetched a control word performs (rules R81, R86); the micro-program run by the sequencer against `COMPRESS`
(rules R12, R105); then the statements O10, O16 and O31.
-/
namespace Sys2Proof.Machine

/-! ## Completion and refusal, meaning by meaning (rule R171) -/

/-- `UPDATE` with `done = 1`. -/
theorem execUpdate_afterFinalize (d : List Byte) (s : State) (hd : s.done = true) :
    execUpdate d s = .refused .afterFinalize :=
  unlessDone_set s _ hd

/-- `UPDATE` beyond MAXLEN. -/
theorem execUpdate_lengthOverflow (d : List Byte) (s : State) (hd : s.done = false)
    (hl : Config.maxLen < s.len.toNat + d.length) : execUpdate d s = .refused .lengthOverflow :=
  (unlessDone_clear s _ hd).trans (if_pos hl)

/-- The converse of `execUpdate_inv`. -/
theorem execUpdate_completes (d : List Byte) (s : State) (hd : s.done = false)
    (hl : s.len.toNat + d.length ≤ Config.maxLen) : execUpdate d s = .next (s.absorb d) :=
  (unlessDone_clear s _ hd).trans (if_neg (Nat.not_lt.mpr hl))

/-- `FINALIZE` with `done = 1`. -/
theorem execFinalize_afterFinalize (s : State) (hd : s.done = true) : execFinalize s = .refused .afterFinalize :=
  unlessDone_set s _ hd

/-- The converse of `execFinalize_inv`. -/
theorem execFinalize_completes (s : State) (hd : s.done = false) :
    execFinalize s = .next s.padAndCompress.respond.setDone.forgetMessage :=
  unlessDone_clear s _ hd

/-- The converse of `execRound_inv`. -/
theorem execRound_of_legalField {m rot : BitVec 2} {m' rot' : Fin 3} (w : BitVec 3) (s : State)
    (hm : legalField m = some m') (hr : legalField rot = some rot') :
    execRound m rot w s = .next (s.roundStep m' rot' (wordIndex w)) := by
  rw [execRound, hm, hr]

/-- `ROUND` with a reserved field (rule R85). -/
theorem execRound_reserved (m rot : BitVec 2) (w : BitVec 3) (s : State) (h : m = 3 ∨ rot = 3) :
    execRound m rot w s = .refused .reservedUop := by
  obtain rfl | rfl := h
  · rw [execRound, legalField_reserved]
  · rw [execRound, legalField_reserved]
    cases legalField m <;> rfl

/-- `ROUND` with legal fields. -/
theorem execRound_completes (m rot : BitVec 2) (w : BitVec 3) (s : State) (hm : m ≠ 3) (hr : rot ≠ 3) :
    execRound m rot w s =
      .next (s.roundStep ⟨m.toNat, legalField_lt m hm⟩ ⟨rot.toNat, legalField_lt rot hr⟩ (wordIndex w)) :=
  execRound_of_legalField w s (legalField_legal m hm) (legalField_legal rot hr)

/-- No refusal is named: the meaning completes. -/
theorem exec_of_refusalFor_none (i : Instr) (s : State) (h : refusalFor s i = none) : ∃ t, exec i s = .next t := by
  cases i with
  | update d =>
    simp only [refusalFor] at h
    split_ifs at h with hd hl
    exact ⟨_, execUpdate_completes d s (by simpa using hd) (Nat.not_lt.mp hl)⟩
  | finalize =>
    simp only [refusalFor] at h
    split_ifs at h with hd
    exact ⟨_, execFinalize_completes s (by simpa using hd)⟩
  | round m rot w =>
    simp only [refusalFor] at h
    split_ifs at h with hf
    obtain ⟨hm, hr⟩ := not_or.mp hf
    exact ⟨_, execRound_completes m rot w s hm hr⟩
  | reset | loadx | save | keysched | feedfwd => exact ⟨_, rfl⟩

/-- A refusal is named: the meaning is refused with it. -/
theorem exec_of_refusalFor_some (i : Instr) (s : State) (r : Refusal) (h : refusalFor s i = some r) :
    exec i s = .refused r := by
  cases i with
  | update d =>
    simp only [refusalFor] at h
    split_ifs at h with hd hl
    · cases h; exact execUpdate_afterFinalize d s hd
    · cases h; exact execUpdate_lengthOverflow d s (by simpa using hd) hl
  | finalize =>
    simp only [refusalFor] at h
    split_ifs at h with hd
    cases h; exact execFinalize_afterFinalize s hd
  | round m rot w =>
    simp only [refusalFor] at h
    split_ifs at h with hf
    cases h; exact execRound_reserved m rot w s hf
  | reset | loadx | save | keysched | feedfwd => cases h

/-! ## Steps that perform a control word (rules R81, R86) -/

/-- A legal control word is fetched as its micro-operation. -/
theorem fetchUop_of_decode {u : BitVec 10} {i : Instr} (s : State) (h : decodeUop u = .ok i) :
    fetchUop u s = .run i s := by
  rw [fetchUop, h]

/-- The test port comes before the sequencer and the stream (log entries 13 and 24). -/
theorem fetch_testWord (s : State) (u : BitVec 10) (hr : s.resetLine = false) (hu : s.testWord = some u) :
    fetch s = fetchUop u { s with testWord := none } := by
  simp [fetch, hr, hu]

/-- A running sequencer selects the word of the micro-program (rule R29). -/
theorem fetch_running (s : State) (k : Fin 29) (hr : s.resetLine = false) (hu : s.testWord = none)
    (hk : s.seq = some k) : fetch s = fetchUop microProgram[k] s := by
  simp [fetch, hr, hu, hk]

/-- A running sequencer performs the micro-operation that its word decodes to. -/
theorem step_running (s : State) (k : Fin 29) (i : Instr) (hr : s.resetLine = false) (hu : s.testWord = none)
    (hk : s.seq = some k) (hi : decodeUop microProgram[k] = .ok i) : step s = exec i s :=
  step_of_fetch_run s s i ((fetch_running s k hr hu hk).trans (fetchUop_of_decode s hi))

/-! ## The micro-program against the list of rule R89 -/

theorem compressOps_length : compressOps.length = 29 := rfl

/-- Operation `k` of `COMPRESS` as rule R89 lists it. -/
def compressOp (k : Fin 29) : Instr := compressOps[k]'(by simp [compressOps_length])

/-- The word that `seq = k` selects is operation `k` of the list (rules R86, R89). -/
theorem decodeUop_microProgram : ∀ k : Fin 29, decodeUop microProgram[k] = .ok (compressOp k) := by decide

/-- A running sequencer performs the operation of the list that it selects. -/
theorem step_compressOp (s : State) (k : Fin 29) (hr : s.resetLine = false) (hu : s.testWord = none)
    (hk : s.seq = some k) : step s = exec (compressOp k) s :=
  step_running s k _ hr hu hk (decodeUop_microProgram k)

/-- The list from operation `k` on. -/
theorem compressOps_drop (k : Fin 29) : compressOps.drop k = compressOp k :: compressOps.drop (k + 1) :=
  List.drop_eq_getElem_cons _

/-- What every micro-operation but `FEEDFWD` does to what steers the next step: it completes, its last act is
`seq + 1`, and it leaves the reset line and the test port alone (rule R29). -/
theorem exec_uop_advances (i : Instr) (s : State) (hc : isCommand i = false) (hw : i.wellFormed = true)
    (hf : i ≠ .feedfwd) :
    ∃ t : State, exec i s = .next t.advanceSeq ∧ t.seq = s.seq ∧
      t.resetLine = s.resetLine ∧ t.testWord = s.testWord := by
  cases i with
  | loadx | save | keysched => exact ⟨_, rfl, rfl, rfl, rfl⟩
  | round m rot w =>
    obtain ⟨hm, hr⟩ : m ≠ 3 ∧ rot ≠ 3 := by simpa [Instr.wellFormed] using hw
    exact ⟨_, execRound_completes m rot w s hm hr, rfl, rfl, rfl⟩
  | feedfwd => exact absurd rfl hf
  | reset | update _ | finalize => cases hc

/-- The list holds micro-operations with an encoding, and `FEEDFWD` at its end only. -/
theorem compressOp_shape :
    ∀ k : Fin 29, isCommand (compressOp k) = false ∧ (compressOp k).wellFormed = true ∧
      (k.val < 28 → compressOp k ≠ .feedfwd) := by decide

/-- A step of the sequencer before 28 (rules R29, R87). -/
theorem exec_compressOp (s : State) (k : Nat) (h : k + 1 < 29) (hk : s.seq = some ⟨k, by omega⟩) :
    ∃ t, exec (compressOp ⟨k, by omega⟩) s = .next t ∧ t.seq = some ⟨k + 1, h⟩ ∧
      t.resetLine = s.resetLine ∧ t.testWord = s.testWord := by
  obtain ⟨hc, hw, hf⟩ := compressOp_shape ⟨k, by omega⟩
  obtain ⟨t, ht, htk, htr, htu⟩ := exec_uop_advances _ s hc hw (hf (by show k < 28; omega))
  refine ⟨t.advanceSeq, ht, ?_, by rw [State.advanceSeq_resetLine, htr], by rw [State.advanceSeq_testWord, htu]⟩
  rw [State.advanceSeq_running t _ (htk.trans hk), ← seqNext_lt k h]

/-! ## Runs -/

/-- A run whose first step answers a next state. -/
theorem run_succ_of_step (M : Host.Core) {s t : M.State} (n : Nat) (h : M.step s = .next t) :
    M.run (n + 1) s = M.run n t := by
  rw [Host.Core.run, h]

/-- A run of one step. -/
theorem run_one (M : Host.Core) (s : M.State) : M.run 1 s = M.step s := by
  rw [Host.Core.run]
  cases M.step s <;> rfl

/-- A list whose first instruction answers a next state. -/
theorem execAll_cons_of_next {i : Instr} {s t : State} (is : List Instr) (h : exec i s = .next t) :
    execAll (i :: is) s = execAll is t := by
  rw [execAll, h]

/-- A list of one instruction. -/
theorem execAll_singleton (i : Instr) (s : State) : execAll [i] s = exec i s := by
  cases h : exec i s <;> simp only [execAll, h]

/-- A list in two parts, the first of which completes. -/
theorem execAll_append_of_next {is : List Instr} {s t : State} (js : List Instr) (h : execAll is s = .next t) :
    execAll (is ++ js) s = execAll js t := by
  induction is generalizing s with
  | nil => cases h; rfl
  | cons i is ih =>
    cases hi : exec i s with
    | next u =>
      rw [execAll_cons_of_next is hi] at h
      rw [List.cons_append, execAll_cons_of_next _ hi, ih h]
    | fault f => simp [execAll, hi] at h
    | refused r => simp [execAll, hi] at h

/-- THE MICRO LEVEL IS THE LIST: from `seq = k` the sequencer, stepped until it is idle, performs the operations of
`COMPRESS` from `k` on (rules R86, R87, R89). -/
theorem run_sequencer_eq_execAll (n k : Nat) (hn : n + k = 28) (s : State) (hr : s.resetLine = false)
    (hu : s.testWord = none) (hk : s.seq = some ⟨k, by omega⟩) :
    Host.Core.run core (n + 1) s = execAll (compressOps.drop k) s := by
  induction n generalizing k s with
  | zero =>
    obtain rfl : k = 28 := by omega
    exact (run_one core s).trans ((step_compressOp s 28 hr hu hk).trans (execAll_singleton _ s).symm)
  | succ n ih =>
    obtain ⟨t, ht, htk, htr, htu⟩ := exec_compressOp s k (by omega) hk
    have stepped : Host.Core.run core (n + 2) s = Host.Core.run core (n + 1) t :=
      run_succ_of_step core _ ((step_compressOp s _ hr hu hk).trans ht)
    have remaining : Host.Core.run core (n + 1) t = execAll (compressOps.drop (k + 1)) t :=
      ih (k + 1) (by omega) t (htr.trans hr) (htu.trans hu) htk
    rw [compressOps_drop ⟨k, by omega⟩, execAll_cons_of_next _ ht]
    exact stepped.trans remaining

/-! ## The list is `COMPRESS` (rules R89, R104, R105) -/

/-- A `ROUND` of a pass, in any state. -/
theorem exec_passRound (m r0 : Fin 3) (i : Fin 8) (s : State) :
    exec (passRound m r0 i) s = .next (s.roundStep m (passRot r0 i) i) := by
  have hm : legalField (BitVec.ofNat 2 m) = some m := by revert m; decide
  have hr : legalField (BitVec.ofNat 2 ((r0 + i) % 3)) = some (passRot r0 i) := by clear hm; revert r0 i; decide
  have hw : wordIndex (BitVec.ofNat 3 i) = i := by clear hr; revert i; decide
  rw [passRound, exec_round, execRound_of_legalField _ s hm hr, hw]

/-- The rounds of a pass one after another. -/
theorem execAll_passRounds (m r0 : Fin 3) (l : List (Fin 8)) (s : State) :
    execAll (l.map fun i => passRound m r0 i) s = .next (l.foldl (fun s i => s.roundStep m (passRot r0 i) i) s) := by
  induction l generalizing s with
  | nil => rfl
  | cons i l ih => exact (execAll_cons_of_next _ (exec_passRound m r0 i s)).trans (ih _)

/-- `PASS` by its expansion, in any state. -/
theorem execAll_passOps (m r0 : Fin 3) (s : State) : execAll (passOps m r0) s = .next (s.pass m r0) :=
  execAll_passRounds m r0 passRounds s

/-- `COMPRESS` by its expansion. -/
theorem execAll_compressOps (b : BlockSource) (s : State) :
    execAll compressOps (s.beginCompress b) = .next (s.compress b) := by
  have pass1 (t : State) : execAll (passOps 0 0) t = .next (t.pass 0 0) := execAll_passOps 0 0 t
  have pass2 (t : State) : execAll (passOps 1 2) t = .next (t.pass 1 2) := execAll_passOps 1 2 t
  have pass3 (t : State) : execAll (passOps 2 1) t = .next (t.pass 2 1) := execAll_passOps 2 1 t
  simp only [compressOps, List.append_assoc]
  rw [execAll_append_of_next _ rfl, execAll_append_of_next _ (pass1 _), execAll_append_of_next _ rfl,
    execAll_append_of_next _ (pass2 _), execAll_append_of_next _ rfl, execAll_append_of_next _ (pass3 _)]
  rfl

/-- THE TWO LEVELS AGREE on the whole state: 29 steps of the sequencer are `COMPRESS` (rules R12, R105). -/
theorem run_beginCompress (b : BlockSource) (s : State) (hr : s.resetLine = false) (hu : s.testWord = none) :
    Host.Core.run core 29 (s.beginCompress b) = .next (s.compress b) :=
  (run_sequencer_eq_execAll 28 0 rfl (s.beginCompress b) hr hu rfl).trans (execAll_compressOps b s)

/-! ## The statements -/

/-- Settles O10, by what `fetch` takes from the test port. -/
theorem stepRunsTheWordUnderTest : Obligations.StepRunsTheWordUnderTest := by
  intro s u i hr hu hi
  exact step_of_fetch_run s _ i ((fetch_testWord s u hr hu).trans (fetchUop_of_decode _ hi))

/-- Settles O16, by the guard of each meaning. -/
theorem execCompletesOrRefuses : Obligations.ExecCompletesOrRefuses := by
  intro i s
  cases h : refusalFor s i with
  | none => exact exec_of_refusalFor_none i s h
  | some r => exact exec_of_refusalFor_some i s r h

/-- Settles O31: the run is `COMPRESS`, and `State.compress_eq` says what that does to each field. -/
theorem microProgramComputesCompress : Obligations.MicroProgramComputesCompress := by
  intro s b hr hu
  refine ⟨s.compress b, run_beginCompress b s hr hu, ?_⟩
  rw [State.compress_eq]
  exact ⟨rfl, rfl, rfl⟩

end Sys2Proof.Machine
end

section
/-!
SUPPORT. The state family (spec/10_state.md): what a step that answered may have done; everything a micro-operation may
have changed (rules R29, R33, R100); everything `UPDATE` does as one closed form over the waiting tail and the payload
(rules R131 to R134); then the statements O47, O54, O28, O30, O34, O49, O51, O52, O9, O17 and O48.
-/
namespace Sys2Proof.Machine

/-! ## Micro-operations that completed -/

/-- EVERYTHING A MICRO-OPERATION CAN DO: it writes `H`, `X` or `S`, and its last act is `seq + 1`; `FEEDFWD` writes `H`
and its last act is `seq <- idle` (rules R29, R100, R106). -/
theorem exec_uop_inv (i : Instr) (s t : State) (hc : isCommand i = false) (h : exec i s = .next t) :
    (i ≠ .feedfwd ∧ ∃ h x saved, t = ({ s with h := h, x := x, saved := saved } : State).advanceSeq) ∨
    (i = .feedfwd ∧ ∃ h, t = ({ s with h := h } : State).idleSeq) := by
  cases i with
  | loadx | save | keysched => cases h; exact .inl ⟨nofun, _, _, _, rfl⟩
  | round m rot w =>
    obtain ⟨m', rot', -, -, rfl⟩ := execRound_inv m rot w s t h
    exact .inl ⟨nofun, _, _, _, rfl⟩
  | feedfwd => cases h; exact .inr ⟨rfl, _, rfl⟩
  | reset | update _ | finalize => cases hc

/-- Settles O28: neither last act, `seq + 1` or `seq <- idle`, reaches another field. -/
theorem microOperationFrame : Obligations.MicroOperationFrame := by
  intro i s t hc h
  obtain ⟨-, h', x', saved', rfl⟩ | ⟨-, h', rfl⟩ := exec_uop_inv i s t hc h
  · simp
  · simp

/-- Settles O30, by what `seq + 1` is at 28 and with an idle sequencer. -/
theorem sequencerOutsideTheMicroProgram : Obligations.SequencerOutsideTheMicroProgram := by
  intro i s t hc hf h
  obtain ⟨-, h', x', saved', rfl⟩ | ⟨hi, -⟩ := exec_uop_inv i s t hc h
  · refine ⟨fun hk => ?_, fun hk => ?_⟩
    · exact congrArg State.seq (State.advanceSeq_running { s with h := h', x := x', saved := saved' } 28 hk)
    · have e := State.advanceSeq_idle { s with h := h', x := x', saved := saved' } hk
      exact ⟨congrArg State.seq e, congrArg State.fresh e⟩
  · exact absurd hi hf

/-! ## Steps that answered a next state -/

/-- EVERYTHING A STEP THAT ANSWERED CAN HAVE DONE: a hardware reset; waiting; an instruction, performed on the state
with its encoding taken from the test port or from the stream (rules R29, R191, R195, R198). -/
theorem step_inv (s t : State) (h : step s = .next t) :
    t = s.hardwareReset ∨ t = s ∨
      ∃ i word rest, exec i { s with testWord := word, input := rest } = .next t := by
  have ran (i : Instr) (word : Option (BitVec 10)) (rest : List Byte)
      (hf : fetch s = .run i { s with testWord := word, input := rest }) :
      exec i { s with testWord := word, input := rest } = .next t :=
    (step_of_fetch_run s _ i hf).symm.trans h
  have not_rejected (r : Refusal) : fetch s ≠ .reject r := fun hf => by
    rw [step_of_fetch_reject s r hf] at h; cases h
  have uop (u : BitVec 10) (word : Option (BitVec 10)) (hf : fetch s = fetchUop u { s with testWord := word }) :
      ∃ i word rest, exec i { s with testWord := word, input := rest } = .next t := by
    obtain ⟨i, -, hu⟩ | ⟨e, -, hu⟩ := fetchUop_cases u { s with testWord := word }
    · exact ⟨i, word, s.input, ran i _ _ (hf.trans hu)⟩
    · exact absurd (hf.trans hu) (not_rejected _)
  obtain ⟨-, hf⟩ | ⟨-, u, -, hf⟩ | ⟨-, -, k, -, hf⟩ | ⟨-, -, -, hf⟩ := fetch_cases s
  · rw [step, hf] at h; cases h; exact .inl rfl
  · exact .inr (.inr (uop u none hf))
  · exact .inr (.inr (uop microProgram[k] s.testWord hf))
  · obtain ⟨-, hc⟩ | ⟨i, rest, -, -, hc⟩ | ⟨e, -, -, hc⟩ := fetchCommand_cases s
    · rw [step, hf, hc] at h; cases h; exact .inr (.inl rfl)
    · exact .inr (.inr ⟨i, s.testWord, rest, ran i _ _ (hf.trans hc)⟩)
    · exact absurd (hf.trans hc) (not_rejected _)

/-- Settles O9: what `fetch` takes while the sequencer runs. -/
theorem stepRunsTheMicroOperation : Obligations.StepRunsTheMicroOperation := by
  intro s k i hr hu hk hi
  exact step_running s k i hr hu hk hi

/-! ## `done` and `SBOX`, meaning by meaning -/

/-- Settles O49: each command by what it does to `done`, a micro-operation by its frame. -/
theorem doneLifeCycle : Obligations.DoneLifeCycle := by
  intro i s t h
  cases i with
  | reset => cases h; simp
  | update d =>
    obtain ⟨-, -, rfl⟩ := execUpdate_inv d s t h
    simp
  | finalize =>
    obtain ⟨-, rfl⟩ := execFinalize_inv s t h
    simp
  | loadx | save | round _ _ _ | keysched | feedfwd =>
    obtain ⟨-, -, -, hd, -⟩ := microOperationFrame _ s t rfl h
    simpa using hd

/-- No meaning writes `SBOX` (rules R30, R61). -/
theorem exec_sbox (i : Instr) (s t : State) (h : exec i s = .next t) : t.sbox = s.sbox := by
  cases i with
  | reset => cases h; rfl
  | update d =>
    obtain ⟨-, -, rfl⟩ := execUpdate_inv d s t h
    exact State.absorb_sbox d s
  | finalize =>
    obtain ⟨-, rfl⟩ := execFinalize_inv s t h
    exact State.padAndCompress_sbox s
  | loadx | save | round _ _ _ | keysched | feedfwd =>
    obtain ⟨-, -, -, -, hb, -⟩ := microOperationFrame _ s t rfl h
    exact hb

/-- Settles O51: a hardware reset and waiting keep `SBOX`, and so does every meaning. -/
theorem romIsNeverWritten : Obligations.RomIsNeverWritten := by
  intro s t h
  obtain rfl | rfl | ⟨i, word, rest, hi⟩ := step_inv s t h
  · rfl
  · rfl
  · exact exec_sbox i { s with testWord := word, input := rest } t hi

/-! ## `UPDATE` by its phases -/

/-- `buf` after phase 1 (rule R131). -/
theorem State.topUp_buf (d : List Byte) (s : State) :
    (s.topUp d).buf = writeBytes s.buf s.fill.toNat (d.take (topUpCount s.fill d.length)) := by
  by_cases hf : s.fill = 0
  · rw [State.topUp_empty d s hf, hf, topUpCount_empty]
    rfl
  · by_cases h : s.fill.toNat + d.length < 64
    · rw [State.topUp_partial d s hf h, topUpCount_partial s.fill d.length hf h, List.take_length]
    · rw [State.topUp_full d s hf (by omega), topUpCount_full s.fill d.length hf (by omega)]
      exact State.compressBlock_buf .buffer (s.filled d)

section TopUpFull
variable (d : List Byte) (s : State) (hf : s.fill ≠ 0) (h : 64 ≤ s.fill.toNat + d.length)
include hf h

/-- Phase 1 empties the buffer that it fills (rule R131). -/
theorem State.topUp_full_fill : (s.topUp d).fill = 0 := congrArg State.fill (State.topUp_full d s hf h)

theorem State.topUp_full_seq : (s.topUp d).seq = none :=
  (congrArg State.seq (State.topUp_full d s hf h)).trans (State.compressBlock_seq .buffer (s.filled d))

theorem State.topUp_full_len : (s.topUp d).len = s.len + BitVec.ofNat 64 (64 - s.fill.toNat) :=
  (congrArg State.len (State.topUp_full d s hf h)).trans (State.compressBlock_len .buffer (s.filled d))

/-- Phase 1 compresses the block that it fills (rule R131). -/
theorem State.topUp_full_h :
    (s.topUp d).h = hashBlocks s.sbox s.h 1 (s.tail ++ d.take (64 - s.fill.toNat)) := by
  rw [← State.filled_bytes d s h, hashBlocks_buffer]
  exact (congrArg State.h (State.topUp_full d s hf h)).trans (State.compressBlock_h .buffer (s.filled d))

end TopUpFull

/-- `buf` after phase 3 (rule R133). -/
theorem State.storeLeftover_buf (r : List Byte) (s : State) :
    (State.storeLeftover r s).buf = writeBytes s.buf 0 r := by
  rw [State.storeLeftover_eq]
  split
  · rename_i hr; rw [hr]; rfl
  · rfl

/-- The payload bytes that phase 3 stores. -/
def leftover (fill : BitVec 6) (d : List Byte) : List Byte :=
  (d.drop (topUpCount fill d.length)).drop (64 * chunkCount fill d.length)

/-- The leftover has `r` bytes (rule R133). -/
theorem leftover_length (fill : BitVec 6) (d : List Byte) :
    (leftover fill d).length = leftoverCount fill d.length := by
  simp only [leftover, leftoverCount, chunkCount, List.length_drop]
  omega

/-- `buf` after `UPDATE`: the stores of phases 1 and 3, phase 2 making none (rules R131 to R133). -/
theorem State.absorb_buf (d : List Byte) (s : State) :
    (s.absorb d).buf =
      writeBytes (writeBytes s.buf s.fill.toNat (d.take (topUpCount s.fill d.length))) 0 (leftover s.fill d) := by
  rw [← State.topUp_buf, State.absorb, State.storeLeftover_buf, State.absorbChunks_buf]
  rfl

/-- A byte that `UPDATE` does not store to (rule R33; log entry 16). -/
theorem State.absorb_buf_getElem (d : List Byte) (s : State) (a : Nat) (ha : a < 64)
    (h : ¬ updateStores s.fill d.length a) : (s.absorb d).buf[a] = s.buf[a] := by
  obtain ⟨h1, h3⟩ := not_or.mp h
  have hle := topUpCount_le s.fill d.length
  simp only [State.absorb_buf, writeBytes_getElem _ _ _ a ha]
  rw [dif_neg (by rw [leftover_length]; omega), dif_neg (by rw [List.length_take]; omega)]

/-- `UPDATE` on an empty buffer is its phases 2 and 3 (rule R134). -/
theorem State.absorb_of_empty (d : List Byte) (s : State) (hf : s.fill = 0) :
    s.absorb d =
      State.storeLeftover (d.drop (64 * (d.length / 64))) (State.absorbChunks (d.length / 64) d s) := by
  simp only [State.absorb, chunkCount, hf, topUpCount_empty, Nat.sub_zero, List.drop_zero, State.topUp_empty d s hf]

/-- `UPDATE` that fills a partial buffer is phase 1, then `UPDATE` of the other bytes on the emptied buffer (rules R131,
R134). -/
theorem State.absorb_of_full (d : List Byte) (s : State) (hf : s.fill ≠ 0) (h : 64 ≤ s.fill.toNat + d.length) :
    s.absorb d = (s.topUp d).absorb (d.drop (64 - s.fill.toNat)) := by
  rw [State.absorb_of_empty _ _ (State.topUp_full_fill d s hf h), List.length_drop]
  simp only [State.absorb, chunkCount, topUpCount_full s.fill d.length hf h]

/-- Everything an `UPDATE` that completes no block does: it appends the payload (rules R131, R133). -/
theorem State.absorb_of_short (d : List Byte) (s : State) (h : s.fill.toNat + d.length < 64) :
    s.absorb d =
      { s with
        buf := writeBytes s.buf s.fill.toNat d
        fill := s.fill + BitVec.ofNat 6 d.length
        len := s.len + BitVec.ofNat 64 d.length } := by
  by_cases hf : s.fill = 0
  · have hq : d.length / 64 = 0 := by omega
    rw [State.absorb_of_empty d s hf, hq, Nat.mul_zero, List.drop_zero, State.absorbChunks, State.storeLeftover_eq, hf]
    split
    · rename_i hd
      subst hd
      ext1 <;> simp [writeBytes, hf]
    · simp
  · have ht : topUpCount s.fill d.length = d.length := topUpCount_partial s.fill d.length hf h
    simp only [State.absorb, chunkCount, ht, Nat.sub_self, Nat.zero_div, Nat.mul_zero, List.drop_zero,
      List.drop_length, State.absorbChunks, State.storeLeftover_eq, if_true]
    exact State.topUp_partial d s hf h

/-- The sequencer is idle after `UPDATE` has completed a block, and as before if it has not (rules R29, R105). -/
theorem State.absorb_seq (d : List Byte) (s : State) :
    (s.absorb d).seq = if s.fill.toNat + d.length < 64 then s.seq else none := by
  by_cases h : s.fill.toNat + d.length < 64
  · rw [if_pos h, State.absorb_of_short d s h]
  · rw [if_neg h, State.absorb, State.storeLeftover_seq, State.absorbChunks_seq]
    by_cases hf : s.fill = 0
    · have hn : s.fill.toNat = 0 := by rw [hf]; rfl
      have hq : chunkCount s.fill d.length ≠ 0 := by rw [chunkCount, hf, topUpCount_empty]; omega
      rw [if_neg hq]
    · rw [State.topUp_full_seq d s hf (by omega), ite_self]

/-- Settles O34, by the stores of phases 1 and 3 and the form of an `UPDATE` that completes no block. -/
theorem updateFrame : Obligations.UpdateFrame := by
  intro d s hd hl
  refine ⟨s.absorb d, execUpdate_completes d s hd hl, by simp, by simp, by simp, by simp, by simp, by simp,
    fun a ha hs => State.absorb_buf_getElem d s a ha hs, fun h => ?_, fun h => ?_⟩
  · rw [State.absorb_of_short d s h]
  · rw [State.absorb_seq, if_neg (Nat.not_lt.mpr h)]

/-- Settles O52: `RESET` leaves the sequencer alone, the compressions of the other two end with an idle one. -/
theorem commandsLeaveTheSequencerIdle : Obligations.CommandsLeaveTheSequencerIdle := by
  intro i s t hc hidle h
  cases i with
  | reset => cases h; exact ⟨hidle, rfl⟩
  | update d =>
    obtain ⟨-, -, rfl⟩ := execUpdate_inv d s t h
    obtain ⟨hr, hu, hk⟩ := hidle
    simp [State.Idle, State.absorb_seq, hr, hu, hk]
  | finalize =>
    obtain ⟨-, rfl⟩ := execFinalize_inv s t h
    obtain ⟨hr, hu, -⟩ := hidle
    simp [State.Idle, hr, hu]
  | loadx | save | round _ _ _ | keysched | feedfwd => cases hc

/-! ## `UPDATE` as one closed form -/

/-- What an `UPDATE` of `d` leaves of `H`, `fill`, `len` and the waiting tail: the blocks that the tail and the payload
fill are compressed in order, what is left over waits (rules R131 to R135). -/
structure State.Absorbed (d : List Byte) (s t : State) : Prop where
  /-- `H`: the completed blocks, compressed in order. -/
  h : t.h = hashBlocks s.sbox s.h ((s.fill.toNat + d.length) / 64) (s.tail ++ d)
  /-- The waiting tail: what follows those blocks. -/
  tail : t.tail = (s.tail ++ d).drop (64 * ((s.fill.toNat + d.length) / 64))
  /-- `len`: every new byte counted once. -/
  len : t.len = s.len + BitVec.ofNat 64 d.length

namespace State.Absorbed
variable {d : List Byte} {s t : State}

/-- `fill` counts the tail (rule R23). -/
theorem fill_toNat (a : State.Absorbed d s t) : t.fill.toNat = (s.fill.toNat + d.length) % 64 := by
  rw [← State.tail_length, a.tail, List.length_drop, List.length_append, State.tail_length]
  omega

end State.Absorbed

/-- An empty buffer has no waiting tail. -/
theorem State.tail_of_empty (s : State) (hf : s.fill = 0) : s.tail = [] := by
  simp [State.tail, hf]

/-- The closed form when no block is completed. -/
theorem State.absorbed_of_short (d : List Byte) (s : State) (h : s.fill.toNat + d.length < 64) :
    State.Absorbed d s (s.absorb d) := by
  have hq : (s.fill.toNat + d.length) / 64 = 0 := by omega
  have hfill : (s.fill + BitVec.ofNat 6 d.length).toNat = s.fill.toNat + d.length := by
    rw [BitVec.toNat_add, BitVec.toNat_ofNat]; omega
  rw [State.absorb_of_short d s h]
  refine ⟨by rw [hq, hashBlocks_zero], ?_, rfl⟩
  rw [hq, Nat.mul_zero, List.drop_zero, State.tail, hfill, writeBytes_toList _ _ _ (by omega)]
  exact List.take_left' (by simp; omega)

/-- The closed form on an empty buffer. -/
theorem State.absorbed_of_empty (d : List Byte) (s : State) (hf : s.fill = 0) :
    State.Absorbed d s (s.absorb d) := by
  have hlt : (d.drop (64 * (d.length / 64))).length < 64 := by rw [List.length_drop]; omega
  have hchunks : (State.absorbChunks (d.length / 64) d s).fill = 0 := by rw [State.absorbChunks_fill, hf]
  obtain ⟨htail, -⟩ := State.storeLeftover_tail _ _ hlt hchunks
  have hn : s.fill.toNat + d.length = d.length := by simp [hf]
  rw [State.absorb_of_empty d s hf]
  refine ⟨?_, ?_, ?_⟩
  · rw [State.storeLeftover_h, State.absorbChunks_h, hn, State.tail_of_empty s hf, List.nil_append]
  · rw [htail, hn, State.tail_of_empty s hf, List.nil_append]
  · rw [State.storeLeftover_len, State.absorbChunks_len, BitVec.add_assoc, ← BitVec.ofNat_add, List.length_drop]
    congr 2
    omega

/-- The closed form when phase 1 fills the buffer: its block, then the closed form of the other bytes. -/
theorem State.absorbed_of_full (d : List Byte) (s : State) (hf : s.fill ≠ 0) (h : 64 ≤ s.fill.toNat + d.length) :
    State.Absorbed d s (s.absorb d) := by
  have hlt := s.fill.isLt
  have htail : s.tail.length = s.fill.toNat := s.tail_length
  have hq : (s.fill.toNat + d.length) / 64 = 1 + (d.length - (64 - s.fill.toNat)) / 64 := by omega
  have hsplit : s.tail ++ d = (s.tail ++ d.take (64 - s.fill.toNat)) ++ d.drop (64 - s.fill.toNat) := by
    rw [List.append_assoc, List.take_append_drop]
  have hblock : (s.tail ++ d.take (64 - s.fill.toNat)).length = 64 := by
    rw [List.length_append, List.length_take, htail]; omega
  have hfill : (s.topUp d).fill = 0 := State.topUp_full_fill d s hf h
  have hn : (s.topUp d).fill.toNat = 0 := by rw [hfill]; rfl
  obtain ⟨eh, etail, elen⟩ := State.absorbed_of_empty (d.drop (64 - s.fill.toNat)) (s.topUp d) hfill
  rw [hn, Nat.zero_add, State.tail_of_empty _ hfill, List.nil_append, List.length_drop] at eh etail
  rw [State.absorb_of_full d s hf h]
  refine ⟨?_, ?_, ?_⟩
  · rw [eh, State.topUp_sbox, State.topUp_full_h d s hf h, hq, hashBlocks_add, hsplit,
      hashBlocks_append _ _ 1 _ (d.drop (64 - s.fill.toNat)) (by omega), List.drop_left' (by omega)]
  · rw [etail, hq, hsplit, Nat.mul_add, ← List.drop_drop, List.drop_left' (by omega)]
  · rw [elen, State.topUp_full_len d s hf h, BitVec.add_assoc, ← BitVec.ofNat_add, List.length_drop]
    congr 2
    omega

/-- EVERYTHING `UPDATE` DOES that a later command can show (rules R131 to R135). -/
theorem State.absorbed (d : List Byte) (s : State) : State.Absorbed d s (s.absorb d) := by
  by_cases hf : s.fill = 0
  · exact State.absorbed_of_empty d s hf
  · by_cases h : s.fill.toNat + d.length < 64
    · exact State.absorbed_of_short d s h
    · exact State.absorbed_of_full d s hf (Nat.not_lt.mp h)

/-! ## The invariant -/

/-- The invariant reads `done`, `len`, `fill` and the responses alone. -/
theorem State.Inv.of_fields {s t : State} (inv : s.Inv) (hd : t.done = s.done) (hl : t.len = s.len)
    (hf : t.fill = s.fill) (hr : t.responses = s.responses) : t.Inv := by
  rw [State.Inv, hd, hl, hf, hr]
  exact inv

/-- `RESET` and a hardware reset put the invariant's first clause in place. -/
theorem State.Inv.of_cleared {s t : State} (inv : s.Inv) (hl : t.len = 0) (hf : t.fill = 0)
    (hr : t.responses = s.responses) : t.Inv := by
  refine ⟨fun _ => ?_, hr ▸ inv.2⟩
  rw [hl, hf]
  exact ⟨Nat.zero_le _, rfl⟩

/-- `UPDATE` within MAXLEN keeps `fill = len mod 64` (rules R24, R25). -/
theorem State.Inv.absorb {s : State} (inv : s.Inv) (d : List Byte) (hd : s.done = false)
    (hl : s.len.toNat + d.length ≤ Config.maxLen) : (s.absorb d).Inv := by
  obtain ⟨absorbing, answered⟩ := inv
  obtain ⟨-, hfill⟩ := absorbing hd
  have hmax : Config.maxLen < 2 ^ 64 := by decide
  have hlen : (s.absorb d).len.toNat = s.len.toNat + d.length := by
    rw [(State.absorbed d s).len, BitVec.toNat_add, BitVec.toNat_ofNat]
    omega
  refine ⟨fun _ => ⟨by omega, ?_⟩, by simpa using answered⟩
  rw [(State.absorbed d s).fill_toNat, hlen]
  omega

/-- `FINALIZE` ends the absorbing and answers with a digest of 24 bytes (rules R26, R90). -/
theorem State.Inv.finalize {s : State} (inv : s.Inv) : s.padAndCompress.respond.setDone.forgetMessage.Inv := by
  refine ⟨nofun, fun r hr => ?_⟩
  obtain hr | rfl : r ∈ s.responses ∨ r = digestBytes s.padAndCompress.h := by simpa using hr
  · exact inv.2 r hr
  · exact digestBytes_length _

/-- Every instruction that completes keeps the invariant. -/
theorem exec_preserves_inv (i : Instr) (s t : State) (inv : s.Inv) (h : exec i s = .next t) : t.Inv := by
  cases i with
  | reset => cases h; exact inv.of_cleared rfl rfl rfl
  | update d =>
    obtain ⟨hd, hl, rfl⟩ := execUpdate_inv d s t h
    exact inv.absorb d hd hl
  | finalize =>
    obtain ⟨-, rfl⟩ := execFinalize_inv s t h
    exact inv.finalize
  | loadx | save | round _ _ _ | keysched | feedfwd =>
    obtain ⟨-, hf, hl, hd, -, -, -, hr, -, -⟩ := microOperationFrame _ s t rfl h
    exact inv.of_fields hd hl hf hr

/-- Settles O47: each thing that a step can do keeps the invariant. -/
theorem stepKeepsInvariant : Obligations.StepKeepsInvariant := by
  intro s t inv h
  obtain rfl | rfl | ⟨i, word, rest, hi⟩ := step_inv s t h
  · exact inv.of_cleared rfl rfl rfl
  · exact inv
  · exact exec_preserves_inv i { s with testWord := word, input := rest } t (inv.of_fields rfl rfl rfl rfl) hi

/-- Settles O17, by the values of `State.reset`. -/
theorem creationLeavesTheInitialCondition : Obligations.CreationLeavesTheInitialCondition :=
  ⟨rfl, rfl, rfl, rfl, rfl⟩

/-- Settles O48: nothing absorbed and nothing answered. -/
theorem creationMeetsInvariant : Obligations.CreationMeetsInvariant :=
  ⟨fun _ => ⟨Nat.zero_le _, rfl⟩, nofun⟩

/-! ## Dead state (rule R37) -/

namespace State.LiveEq
variable {s t : State}

/-- Rule R171 refuses an instruction in both states or in neither, for the same reason. -/
theorem refusalFor_eq (l : s.LiveEq t) (i : Instr) : refusalFor s i = refusalFor t i := by
  obtain ⟨-, hd, -, absorbing⟩ := l
  cases i with
  | update d =>
    cases hs : s.done with
    | true => simp [refusalFor, ← hd, hs]
    | false =>
      obtain ⟨-, hlen, -⟩ := absorbing hs
      simp only [refusalFor, hd, hlen]
  | finalize => simp only [refusalFor, hd]
  | round _ _ _ | reset | loadx | save | keysched | feedfwd => rfl

/-- `RESET` writes every live field but `SBOX` (rule R159). -/
theorem clearMessage (l : s.LiveEq t) : s.clearMessage.LiveEq t.clearMessage := by
  obtain ⟨-, -, hb, -⟩ := l
  exact ⟨rfl, rfl, hb, fun _ => ⟨rfl, rfl, by simp [State.tail]⟩⟩

/-- `UPDATE` reads live fields alone (rules R37, R131 to R133). -/
theorem absorb (l : s.LiveEq t) (hd : s.done = false) (d : List Byte) : (s.absorb d).LiveEq (t.absorb d) := by
  obtain ⟨hh, hdone, hb, absorbing⟩ := l
  obtain ⟨hf, hlen, htail⟩ := absorbing hd
  have a := State.absorbed d s
  have b := State.absorbed d t
  refine ⟨?_, by simp [hdone], by simp [hb], fun _ => ⟨BitVec.eq_of_toNat_eq ?_, ?_, ?_⟩⟩
  · rw [a.h, b.h, hh, hb, hf, htail]
  · rw [a.fill_toNat, b.fill_toNat, hf]
  · rw [a.len, b.len, hlen]
  · rw [a.tail, b.tail, hf, htail]

/-- The padding and its compressions read live fields alone (rules R37, R151 to R154). -/
theorem padAndCompress_h (l : s.LiveEq t) (hd : s.done = false) : s.padAndCompress.h = t.padAndCompress.h := by
  obtain ⟨hh, -, hb, absorbing⟩ := l
  obtain ⟨hf, hlen, htail⟩ := absorbing hd
  rw [State.padAndCompress_h, State.padAndCompress_h, State.bitLength, State.bitLength, hh, hb, hf, hlen, htail]

/-- After `FINALIZE`, `H` and `SBOX` are all that is live (rule R36). -/
theorem finalize (l : s.LiveEq t) (hd : s.done = false) :
    s.padAndCompress.respond.setDone.forgetMessage.LiveEq t.padAndCompress.respond.setDone.forgetMessage := by
  have hh := l.padAndCompress_h hd
  obtain ⟨-, -, hb, -⟩ := l
  refine ⟨?_, ?_, ?_, fun h => ?_⟩
  · simpa using hh
  · simp
  · simpa using hb
  · simp at h

end State.LiveEq

/-- One command gives the host the same answer from both states. -/
theorem exec_sameAnswers (i : Instr) (s t : State) (hc : isCommand i = true) (l : s.LiveEq t) :
    SameAnswers s t (exec i s) (exec i t) := by
  cases hr : refusalFor s i with
  | some r =>
    exact .inl ⟨r, exec_of_refusalFor_some i s r hr, exec_of_refusalFor_some i t r ((l.refusalFor_eq i).symm.trans hr)⟩
  | none =>
    obtain ⟨s', hs⟩ := exec_of_refusalFor_none i s hr
    obtain ⟨t', ht⟩ := exec_of_refusalFor_none i t ((l.refusalFor_eq i).symm.trans hr)
    refine .inr ⟨s', t', ?_⟩
    cases i with
    | reset => cases hs; cases ht; exact ⟨[], rfl, rfl, l.clearMessage, by simp, by simp⟩
    | update d =>
      obtain ⟨hd, -, rfl⟩ := execUpdate_inv d s s' hs
      obtain ⟨-, -, rfl⟩ := execUpdate_inv d t t' ht
      exact ⟨[], hs, ht, l.absorb hd d, by simp, by simp⟩
    | finalize =>
      obtain ⟨hd, rfl⟩ := execFinalize_inv s s' hs
      obtain ⟨-, rfl⟩ := execFinalize_inv t t' ht
      exact ⟨[digestBytes s.padAndCompress.h], hs, ht, l.finalize hd, by simp, by simp [l.padAndCompress_h hd]⟩
    | loadx | save | round _ _ _ | keysched | feedfwd => cases hc

/-- A list whose first instruction is refused is refused. -/
theorem execAll_cons_of_refused {i : Instr} {s : State} {r : Refusal} (is : List Instr) (h : exec i s = .refused r) :
    execAll (i :: is) s = .refused r := by
  rw [execAll, h]

/-- Answers after answers: the later responses follow the earlier ones. -/
theorem SameAnswers.after_responses {s t s' t' : State} {o p : Host.Outcome State Fault Refusal}
    (a : SameAnswers s' t' o p) (rs : List (List Byte)) (hs : s'.responses = s.responses ++ rs)
    (ht : t'.responses = t.responses ++ rs) : SameAnswers s t o p := by
  obtain refused | ⟨s'', t'', rs', ho, hp, l, hs', ht'⟩ := a
  · exact .inl refused
  · refine .inr ⟨s'', t'', rs ++ rs', ho, hp, l, ?_, ?_⟩
    · rw [hs', hs, List.append_assoc]
    · rw [ht', ht, List.append_assoc]

/-- Settles O54, by induction on the list of commands. -/
theorem deadStateIsInvisible : Obligations.DeadStateIsInvisible := by
  intro is
  induction is with
  | nil => exact fun s t _ l => .inr ⟨s, t, [], rfl, rfl, l, by simp, by simp⟩
  | cons i is ih =>
    intro s t hall l
    obtain ⟨hi, his⟩ : isCommand i = true ∧ is.all isCommand = true := by simpa using hall
    obtain ⟨r, hs, ht⟩ | ⟨s', t', rs, hs, ht, l', hrs, hrt⟩ := exec_sameAnswers i s t hi l
    · exact .inl ⟨r, execAll_cons_of_refused is hs, execAll_cons_of_refused is ht⟩
    · rw [execAll_cons_of_next is hs, execAll_cons_of_next is ht]
      exact (ih s' t' his l').after_responses rs hrs hrt

end Sys2Proof.Machine
end

section
/-!
SUPPORT. The memory family (spec/20_memory.md): the byte layout of the response (rule R63) and the address of a table
lookup (rules R51, R71); then the statements O44 and O23.
-/
namespace Sys2Proof.Machine

/-! ## The response (rule R63) -/

theorem le64_getElem? (v : Word) (k : Fin 8) : (le64 v)[k.val]? = some (byteOf k.val v) := by
  have hk : k.val < (le64 v).length := k.isLt
  rw [List.getElem?_eq_getElem hk, le64_getElem]

/-- Byte `8j + k` of the digest string is byte `k` of word `j`: word `j` follows `j` words of eight bytes each. -/
theorem digestBytes_getElem? (h : Vector Word 3) (j : Fin 3) (k : Fin 8) :
    (digestBytes h)[8 * j.val + k.val]? = some (byteOf k.val h[j]) := by
  rw [digestBytes, List.append_assoc]
  match j with
  | 0 =>
    rw [List.getElem?_append_left (by simp)]
    simpa using le64_getElem? h[0] k
  | 1 =>
    rw [List.getElem?_append_right (by simp), List.getElem?_append_left (by simp)]
    simpa using le64_getElem? h[1] k
  | 2 =>
    rw [List.getElem?_append_right (by simp; omega), List.getElem?_append_right (by simp; omega)]
    simpa [Nat.sub_sub] using le64_getElem? h[2] k

/-- Settles O44: the response is the digest string of the `H` that `FINALIZE` leaves. -/
theorem digestLayout : Obligations.DigestLayout := by
  intro s hd
  refine ⟨_, digestBytes s.padAndCompress.h, execFinalize_completes s hd, by simp, ?_, digestBytes_length _, ?_⟩
  · simp [digestBytes]
  · simpa using digestBytes_getElem? s.padAndCompress.h

/-! ## The table (rules R51, R71) -/

/-- Settles O23: the index `256 * g + i` is within the table for every group and byte. -/
theorem romReadAddressing : Obligations.RomReadAddressing := by
  intro sbox g i
  have hi : 256 * g.val + i.toNat < sbox.toList.length := by
    rw [Vector.length_toList]; omega
  rw [List.getElem?_eq_getElem hi, Vector.getElem_toList, romRead]

end Sys2Proof.Machine
end

section
/-!
SUPPORT. The encoding family (spec/30_encoding.md): what each decoder can answer and from which bytes or bits (rules R76
to R85); what an idle engine does with its stream (rules R79, R80, R195); the text of an instruction (rule R88); what
`UPDATE` of one byte stores, and how often a command compresses (rules R91, R138, R140, R158); then, each after the
lemmas it needs, the statements of the family.
-/
namespace Sys2Proof.Machine

/-! ## Control words (rules R81 to R85) -/

/-- A control word is its `op` and the seven bits below. -/
theorem uop_eq_op_append (u : BitVec 10) : u.extractLsb' 7 3 ++ u.extractLsb' 0 7 = u :=
  (BitVec.extractLsb'_append_extractLsb'_eq_extractLsb' rfl).trans BitVec.extractLsb'_eq_self

/-- A control word is its `op`, `m`, `rot` and `w`. -/
theorem uop_eq_fields (u : BitVec 10) :
    u.extractLsb' 7 3 ++ u.extractLsb' 5 2 ++ u.extractLsb' 3 2 ++ u.extractLsb' 0 3 = u := by
  rw [BitVec.extractLsb'_append_extractLsb'_eq_extractLsb' (show 7 = 5 + 2 from rfl),
    BitVec.extractLsb'_append_extractLsb'_eq_extractLsb' (show 5 = 3 + 2 from rfl),
    BitVec.extractLsb'_append_extractLsb'_eq_extractLsb' (show 3 = 0 + 3 from rfl)]
  exact BitVec.extractLsb'_eq_self

/-- The fields of an encoded `ROUND`. -/
theorem roundWord_fields (m rot : BitVec 2) (w : BitVec 3) (u : BitVec 10) (hu : u = 0b010#3 ++ m ++ rot ++ w) :
    u.extractLsb' 7 3 = 2#3 ∧ u.extractLsb' 5 2 = m ∧ u.extractLsb' 3 2 = rot ∧ u.extractLsb' 0 3 = w := by
  subst hu
  refine ⟨?op, ?m, ?rot, BitVec.extractLsb'_append_eq_right⟩
  case op =>
    exact (BitVec.extractLsb'_append_eq_of_le (by decide)).trans
      ((BitVec.extractLsb'_append_eq_of_le (by decide)).trans BitVec.extractLsb'_append_eq_left)
  case m =>
    exact (BitVec.extractLsb'_append_eq_of_le (by decide)).trans
      ((BitVec.extractLsb'_append_eq_of_le (by decide)).trans BitVec.extractLsb'_append_eq_right)
  case rot =>
    exact (BitVec.extractLsb'_append_eq_of_le (by decide)).trans BitVec.extractLsb'_append_eq_right

/-- The decoder reads an encoded `ROUND` back. -/
theorem decodeUop_round (m rot : BitVec 2) (w : BitVec 3) (h : (Instr.round m rot w).wellFormed = true) :
    decodeUop (0b010#3 ++ m ++ rot ++ w) = .ok (.round m rot w) := by
  obtain ⟨hop, hm, hrot, hw⟩ := roundWord_fields m rot w _ rfl
  have legal : ¬ (m = 3#2 ∨ rot = 3#2) := by simpa [Instr.wellFormed] using h
  rw [decodeUop, hop, if_neg (by decide), if_neg (by decide), if_pos rfl, decodeRound, hm, hrot, hw, if_neg legal]

/-- A word without fields that decodes (rules R81, R85). -/
theorem decodePlain_inv {u : BitVec 10} {i j : Instr} (h : decodePlain u i = .ok j) :
    j = i ∧ u.extractLsb' 0 7 = 0#7 := by
  unfold decodePlain at h
  split at h
  · rename_i hz; cases h; exact ⟨rfl, hz⟩
  · cases h

/-- When a word without fields is refused, and how (rule R85). -/
theorem decodePlain_error_iff (u : BitVec 10) (i : Instr) (e : DecodeError) :
    decodePlain u i = .error e ↔ u.extractLsb' 0 7 ≠ 0#7 ∧ e = .reservedUop := by
  unfold decodePlain
  split
  · rename_i hz; simp [hz]
  · rename_i hz; simp [hz, eq_comm (b := e)]

/-- A `ROUND` word that decodes (rules R81 to R85). -/
theorem decodeRound_inv {u : BitVec 10} {i : Instr} (h : decodeRound u = .ok i) :
    i = .round (u.extractLsb' 5 2) (u.extractLsb' 3 2) (u.extractLsb' 0 3) ∧ i.wellFormed = true := by
  unfold decodeRound at h
  split at h
  · cases h
  · rename_i legal
    cases h
    exact ⟨rfl, by simpa [Instr.wellFormed] using legal⟩

/-- When a `ROUND` word is refused, and how (rule R85). -/
theorem decodeRound_error_iff (u : BitVec 10) (e : DecodeError) :
    decodeRound u = .error e ↔ (u.extractLsb' 5 2 = 3#2 ∨ u.extractLsb' 3 2 = 3#2) ∧ e = .reservedUop := by
  unfold decodeRound
  split
  · rename_i reserved; simp [reserved, eq_comm (b := e)]
  · rename_i legal; simp [legal]

/-- EVERYTHING THE CONTROL-WORD DECODER CAN DO (rules R81, R85): a row without fields, whose encoding has zeros below
its `op`; a `ROUND` word; a reserved `op`. -/
theorem decodeUop_cases (u : BitVec 10) :
    (∃ i, decodeUop u = decodePlain u i ∧ i.wellFormed = true ∧ encode i = .uop (u.extractLsb' 7 3 ++ 0#7) ∧
      u.extractLsb' 7 3 ≠ 2#3 ∧ (u.extractLsb' 7 3).toNat < 5) ∨
    (decodeUop u = decodeRound u ∧ u.extractLsb' 7 3 = 2#3) ∨
    (decodeUop u = .error .reservedUop ∧ 5 ≤ (u.extractLsb' 7 3).toNat) := by
  unfold decodeUop
  generalize u.extractLsb' 7 3 = op
  split_ifs with h0 h1 h2 h3 h4
  · subst h0; exact .inl ⟨.loadx, rfl, rfl, rfl, by decide, by decide⟩
  · subst h1; exact .inl ⟨.save, rfl, rfl, rfl, by decide, by decide⟩
  · exact .inr (.inl ⟨rfl, h2⟩)
  · subst h3; exact .inl ⟨.keysched, rfl, rfl, rfl, by decide, by decide⟩
  · subst h4; exact .inl ⟨.feedfwd, rfl, rfl, rfl, by decide, by decide⟩
  · exact .inr (.inr ⟨rfl, by bv_omega⟩)

/-- The only error of the control-word decoder (rule R85). -/
theorem decodeUop_error {u : BitVec 10} {e : DecodeError} (h : decodeUop u = .error e) : e = .reservedUop := by
  obtain ⟨i, hu, -⟩ | ⟨hu, -⟩ | ⟨hu, -⟩ := decodeUop_cases u
  · exact ((decodePlain_error_iff u i e).mp (hu.symm.trans h)).2
  · exact ((decodeRound_error_iff u e).mp (hu.symm.trans h)).2
  · cases hu.symm.trans h; rfl

/-- A word decodes or is refused as `reservedUop`. -/
theorem decodeUop_isOk (u : BitVec 10) : (decodeUop u).isOk = !decide (decodeUop u = .error .reservedUop) := by
  cases h : decodeUop u with
  | ok i => rfl
  | error e => rw [decodeUop_error h]; rfl

/-- Settles O2: a control word is its `op` and its fields, and the decoder looks at all of them. -/
theorem encodeOfDecodedUop : Obligations.EncodeOfDecodedUop := by
  intro u i h
  obtain ⟨j, hu, hw, he, -, -⟩ | ⟨hu, hop⟩ | ⟨hu, -⟩ := decodeUop_cases u
  · obtain ⟨rfl, hz⟩ := decodePlain_inv (hu.symm.trans h)
    rw [← hz, uop_eq_op_append] at he
    exact ⟨hw, he⟩
  · obtain ⟨rfl, hw⟩ := decodeRound_inv (hu.symm.trans h)
    exact ⟨hw, by rw [encode, ← hop, uop_eq_fields]⟩
  · cases hu.symm.trans h

/-- Settles O4: the refusals by the cases of the decoder; of the 1024 words the legal ones are counted, the reserved
ones are the others. -/
theorem reservedControlWords : Obligations.ReservedControlWords := by
  have legal : ((List.range 1024).filter fun n => (decodeUop (BitVec.ofNat 10 n)).isOk).length = 76 := by
    decide +kernel
  refine ⟨fun u => ?_, legal, ?_⟩
  · obtain ⟨i, hu, -, -, h2, h5⟩ | ⟨hu, hop⟩ | ⟨hu, h5⟩ := decodeUop_cases u
    · rw [hu, decodePlain_error_iff, or_iff_right (Nat.not_le.mpr h5)]
      simp [h2]
    · rw [hu, decodeRound_error_iff, hop]
      simp
    · exact iff_of_true hu (.inl h5)
  · have total := List.length_eq_length_filter_add (l := List.range 1024)
      fun n => (decodeUop (BitVec.ofNat 10 n)).isOk
    rw [legal, List.length_range] at total
    simp only [decodeUop_isOk, Bool.not_not] at total
    omega

/-! ## Commands (rules R76 to R80) -/

/-- What the decoder has read of an `UPDATE`: the header is that of the payload (rules R77, R79). -/
theorem decodeUpdate_inv {s rest : List Byte} {i : Instr} (h : decodeUpdate s = .ok (i, rest)) :
    ∃ d, i = .update d ∧ d.length < 2 ^ 64 ∧ s = le64 (BitVec.ofNat 64 d.length) ++ d ++ rest := by
  unfold decodeUpdate at h
  split at h
  · cases h
  · rename_i h8
    dsimp only at h
    split at h
    · cases h
    · rename_i hn
      cases h
      have header : (s.take 8).length = 8 := by rw [List.length_take]; omega
      have payload : ((s.drop 8).take (leNat (s.take 8))).length = leNat (s.take 8) := by
        rw [List.length_take]; omega
      have fits := leNat_lt (s.take 8)
      rw [header] at fits
      have spelled : le64 (BitVec.ofNat 64 (leNat (s.take 8))) = s.take 8 := le64_le64dec _ header
      refine ⟨_, rfl, by rw [payload]; exact fits, ?_⟩
      rw [payload, spelled, List.append_assoc, List.take_append_drop, List.take_append_drop]

/-- Settles O3, by the opcode: an `UPDATE` is its header and its payload, the other two are one byte. -/
theorem encodeOfDecodedCommand : Obligations.EncodeOfDecodedCommand := by
  intro s i rest h
  cases s with
  | nil => cases h
  | cons op s =>
    rw [decodeCommand] at h
    split_ifs at h with h1 h2 h3
    · cases h; subst h1; exact ⟨rfl, _, rfl, rfl⟩
    · subst h2
      obtain ⟨d, rfl, fits, rfl⟩ := decodeUpdate_inv h
      exact ⟨decide_eq_true fits, _, rfl, rfl⟩
    · cases h; subst h3; exact ⟨rfl, _, rfl, rfl⟩

/-- The decoder reads an encoded `UPDATE` back from the head of any stream (rules R77, R79). -/
theorem decodeCommand_encoded_update (d rest : List Byte) (h : d.length < 2 ^ 64) :
    decodeCommand (0x02#8 :: (le64 (BitVec.ofNat 64 d.length) ++ d) ++ rest) = .ok (.update d, rest) := by
  have header : leNat (le64 (BitVec.ofNat 64 d.length)) = d.length := by
    rw [leNat_le64, BitVec.toNat_ofNat, Nat.mod_eq_of_lt h]
  rw [List.cons_append, decodeCommand_update, List.append_assoc]
  exact decodeUpdate_of_header _ d rest (le64_length _) header

/-- Settles O1, constructor by constructor: only `UPDATE` and `ROUND` have operands to be read back. -/
theorem decodeOfEncode : Obligations.DecodeOfEncode := by
  intro i rest hw
  cases i with
  | reset | finalize => exact ⟨rfl, rfl⟩
  | update d => exact ⟨rfl, decodeCommand_encoded_update d rest (of_decide_eq_true hw)⟩
  | loadx | save | keysched | feedfwd => exact ⟨rfl, rfl⟩
  | round m rot w => exact ⟨rfl, decodeUop_round m rot w hw⟩

/-- What follows a command that decodes is left where it is (rule R79). -/
theorem decodeCommand_append {s rest : List Byte} {i : Instr} (h : decodeCommand s = .ok (i, rest)) (t : List Byte) :
    decodeCommand (s ++ t) = .ok (i, rest ++ t) := by
  obtain ⟨hw, bytes, he, rfl⟩ := encodeOfDecodedCommand s i rest h
  have decoded := decodeOfEncode i (rest ++ t) hw
  rw [he] at decoded
  obtain ⟨-, decoded⟩ := decoded
  rw [List.append_assoc, decoded]

/-- Settles O5, by evaluation of the two decoders. -/
theorem sampleWordsDecode : Obligations.SampleWordsDecode :=
  ⟨rfl, rfl, rfl, rfl, rfl, rfl, rfl, rfl⟩

/-- Settles O6, word by word. -/
theorem microProgramDecodesToCompress : Obligations.MicroProgramDecodesToCompress := by
  refine List.ext_getElem rfl fun k hk _ => ?_
  have hlt : k < 29 := by simpa using hk
  rw [List.getElem_map, List.getElem_map, Vector.getElem_toList]
  exact decodeUop_microProgram ⟨k, hlt⟩

/-! ## Steps of an idle engine (rules R79, R80, R195) -/

section Idle
variable {s : State} (idle : s.Idle)
include idle

/-- An idle engine takes the next command of the stream (rule R195). -/
theorem fetch_of_idle : fetch s = fetchCommand s := by
  obtain ⟨hr, hu, hk⟩ := idle
  simp [fetch, hr, hu, hk]

/-- An idle engine performs the command that its stream begins with (rules R79, R195). -/
theorem step_of_decode_ok {i : Instr} {rest : List Byte} (h : decodeCommand s.input = .ok (i, rest)) :
    step s = exec i { s with input := rest } := by
  obtain ⟨hnil, -⟩ | ⟨i', rest', hd, -, hf⟩ | ⟨e, hd, -⟩ := fetchCommand_cases s
  · rw [hnil] at h; cases h
  · cases h.symm.trans hd
    exact step_of_fetch_run s _ i ((fetch_of_idle idle).trans hf)
  · cases h.symm.trans hd

/-- An idle engine refuses a stream that does not begin with a whole command (rules R79, R80). -/
theorem step_of_decode_error {e : DecodeError} (hne : s.input ≠ []) (h : decodeCommand s.input = .error e) :
    step s = .refused (refusalOf e) := by
  obtain ⟨hnil, -⟩ | ⟨i, rest, hd, -⟩ | ⟨e', hd, -, hf⟩ := fetchCommand_cases s
  · exact absurd hnil hne
  · cases h.symm.trans hd
  · cases h.symm.trans hd
    exact step_of_fetch_reject s _ ((fetch_of_idle idle).trans hf)

end Idle

/-- Settles O8, by what an idle engine takes from its stream. -/
theorem stepRunsTheCommand : Obligations.StepRunsTheCommand := by
  intro s i rest idle _ h
  exact step_of_decode_ok idle h

/-- Settles O12: both places are where the step looks first, and the bytes placed before the stream decode as they do
alone. -/
theorem placedWordRuns : Obligations.PlacedWordRuns := by
  intro s nbits w i h
  rw [State.withFetchWord, State.placeWord]
  unfold decodeTableWord at h
  split at h
  · rename_i uopRow
    rw [if_pos uopRow]
    split at h
    · rename_i j decoded
      cases h
      refine ⟨{ s with resetLine := false, testWord := none }, ?_, rfl⟩
      exact stepRunsTheWordUnderTest _ _ i rfl rfl decoded
    · cases h
  · rename_i commandRow
    rw [if_neg commandRow]
    split at h
    · rename_i j rest decoded
      cases h
      refine ⟨{ s with resetLine := false, testWord := none, seq := none, input := rest ++ s.input }, ?_, rfl⟩
      exact step_of_decode_ok ⟨rfl, rfl, rfl⟩ (decodeCommand_append decoded s.input)
    · cases h

/-- Settles O13: the decoder refuses the first byte whatever follows it. -/
theorem reservedOpcodeRefused : Obligations.ReservedOpcodeRefused := by
  intro s op rest idle hin h1 h2 h3
  refine step_of_decode_error idle (e := .reservedOpcode) (by simp [hin]) ?_
  rw [hin, decodeCommand_reserved op rest h1 h2 h3]

/-- Settles O14: the header is cut, or it is whole and the payload is cut. -/
theorem truncatedUpdateRefused : Obligations.TruncatedUpdateRefused := by
  intro s rest idle hin cut
  refine step_of_decode_error idle (e := .truncatedCommand) (by simp [hin]) ?_
  rw [hin, decodeCommand_update]
  by_cases h8 : rest.length < 8
  · exact decodeUpdate_cut_header rest h8
  · exact decodeUpdate_cut_payload rest (Nat.not_lt.mp h8) (cut.resolve_left h8)

/-! ## The sequencer, `ROUND` and the responses (rules R85, R87, R90) -/

/-- Settles O24, by the field that is reserved. -/
theorem roundWithReservedFieldRefused : Obligations.RoundWithReservedFieldRefused := by
  intro m rot w s h
  exact execRound_reserved m rot w s h

/-- Settles O29: before 28 the operation ends with `seq + 1`; at 28 it is `FEEDFWD`. -/
theorem sequencerCounts : Obligations.SequencerCounts := by
  intro s k hr hu hk
  have stepped := step_compressOp s k hr hu hk
  by_cases h : k.val < 28
  · obtain ⟨t, ht, htk, htr, htu⟩ := exec_compressOp s k (by omega) hk
    refine ⟨compressOp k, t, decodeUop_microProgram k, ht, stepped.trans ht, ?_, htr.trans hr, htu.trans hu⟩
    rw [htk, dif_pos h]
  · obtain rfl : k = 28 := Fin.ext (show k.val = 28 by omega)
    exact ⟨.feedfwd, s.feedForward, decodeUop_microProgram 28, rfl, stepped, rfl, hr, hu⟩

/-- Settles O50: the answer of `FINALIZE` is `DigestLayout`'s; every other meaning has the responses in its frame. -/
theorem onlyFinalizeAnswers : Obligations.OnlyFinalizeAnswers := by
  refine ⟨fun s hd => ?_, fun i s t hi h => ?_⟩
  · obtain ⟨t, r, ht, answered, digest, length, -⟩ := digestLayout s hd
    exact ⟨t, r, ht, answered, length, digest⟩
  · cases i with
    | reset => cases h; rfl
    | update d =>
      obtain ⟨-, -, rfl⟩ := execUpdate_inv d s t h
      exact State.absorb_responses d s
    | finalize => exact absurd rfl hi
    | loadx | save | round _ _ _ | keysched | feedfwd =>
      obtain ⟨-, -, -, -, -, -, -, kept, -, -⟩ := microOperationFrame _ s t rfl h
      exact kept

/-! ## How often a command compresses (rules R91, R140, R158; log entries 5 and 7) -/

/-- `UPDATE` on an empty buffer draws once a chunk. -/
theorem State.absorb_fresh_of_empty (d : List Byte) (s : State) (hf : s.fill = 0) :
    (s.absorb d).fresh = s.fresh + d.length / 64 := by
  rw [State.absorb_of_empty d s hf, State.storeLeftover_fresh, State.absorbChunks_fresh]

/-- Phase 1 draws once when it fills the buffer. -/
theorem State.topUp_full_fresh (d : List Byte) (s : State) (hf : s.fill ≠ 0) (h : 64 ≤ s.fill.toNat + d.length) :
    (s.topUp d).fresh = s.fresh + 1 :=
  (congrArg State.fresh (State.topUp_full d s hf h)).trans (State.compressBlock_fresh .buffer (s.filled d))

/-- `UPDATE` draws once a block that the waiting bytes and the payload complete. -/
theorem State.absorb_fresh (d : List Byte) (s : State) :
    (s.absorb d).fresh = s.fresh + (s.fill.toNat + d.length) / 64 := by
  by_cases hf : s.fill = 0
  · simp [State.absorb_fresh_of_empty d s hf, hf]
  · by_cases h : s.fill.toNat + d.length < 64
    · rw [State.absorb_of_short d s h, Nat.div_eq_of_lt h]
      rfl
    · have full : 64 ≤ s.fill.toNat + d.length := Nat.not_lt.mp h
      have hlt := s.fill.isLt
      rw [State.absorb_of_full d s hf full, State.absorb_fresh_of_empty _ _ (State.topUp_full_fill d s hf full),
        State.topUp_full_fresh d s hf full, List.length_drop]
      omega

/-- The padding draws once a block: one block if `fill < 56`, else two. -/
theorem State.padAndCompress_fresh (s : State) :
    s.padAndCompress.fresh = s.fresh + (if s.fill.toNat < 56 then 1 else 2) := by
  unfold State.padAndCompress
  split
  · simp [State.finishOneBlock, State.padTail]
  · simp [State.finishTwoBlocks, State.padTail]

/-- Settles O53, by the draws of `UPDATE` and of the padding; forgetting the message is the draw at the end. -/
theorem compressionCounts : Obligations.CompressionCounts := by
  refine ⟨fun d s hd hl => ⟨s.absorb d, execUpdate_completes d s hd hl, State.absorb_fresh d s⟩,
    fun s hd => ⟨_, execFinalize_completes s hd, ?_⟩⟩
  simp [State.padAndCompress_fresh]

/-! ## `UPDATE` of one byte (rule R138) -/

/-- A write of one byte inside the block (rule R52). -/
theorem writeBytes_singleton (blk : Block) (a : Nat) (v : Byte) (ha : a < 64) :
    writeBytes blk a [v] = blk.set a v ha := by
  ext i hi
  rw [writeBytes, writeBytes, Vector.getElem_setIfInBounds, Vector.getElem_set]

/-- The byte is stored at `fill`, and nothing else is. -/
theorem State.absorb_buf_of_byte (b : Byte) (s : State) :
    (s.absorb [b]).buf = writeBytes s.buf s.fill.toNat [b] := by
  by_cases h : s.fill.toNat + [b].length < 64
  · rw [State.absorb_of_short [b] s h]
  · rw [List.length_singleton] at h
    have hf : s.fill ≠ 0 := fun hf => by simp [hf] at h
    have toppedUp : topUpCount s.fill [b].length = 1 := by
      rw [List.length_singleton, topUpCount_full s.fill 1 hf (by omega)]; omega
    have none_left : leftover s.fill [b] = [] := by
      rw [leftover, toppedUp]; exact List.drop_nil
    rw [State.absorb_buf, toppedUp, none_left]
    rfl

/-- A byte that fills the buffer: the buffer is then the waiting tail and the byte. -/
theorem State.absorb_byte_fills (b : Byte) (s : State) (h : s.fill.toNat = 63) :
    (s.absorb [b]).buf.toList = s.tail ++ [b] := by
  rw [State.absorb_buf_of_byte, writeBytes_toList _ _ _ (by simp [h]), List.drop_eq_nil_of_le (by simp [h]),
    List.append_nil]
  rfl

/-- Settles O39: at 63 the closed form compresses the buffer that the byte fills, below 63 no block is completed. -/
theorem absorbOneByte : Obligations.AbsorbOneByte := by
  intro b s hd hl
  have hlt := s.fill.isLt
  have hn : s.fill.toNat = 63 ↔ s.fill = 63 := BitVec.toNat_inj (y := 63)
  have closed := State.absorbed [b] s
  refine ⟨s.absorb [b], execUpdate_completes [b] s hd hl, ?_, closed.len, fun hf => ?_, fun hf => ?_⟩
  · rw [State.absorb_buf_of_byte, writeBytes_singleton]
  · have h63 := hn.mpr hf
    have one : (s.fill.toNat + [b].length) / 64 = 1 := by simp [h63]
    refine ⟨?_, BitVec.eq_of_toNat_eq ?_⟩
    · rw [closed.h, one, ← State.absorb_byte_fills b s h63, hashBlocks_buffer]
    · simp [closed.fill_toNat, h63]
  · have ne := mt hn.mp hf
    rw [State.absorb_of_short [b] s (by simp; omega)]
    exact ⟨rfl, rfl⟩

/-! ## Text (rule R88; log entry 23) -/

/-- The character of a hexadecimal digit reads back as its value. -/
theorem hexVal_hexChar : ∀ n < 16, hexVal (hexChar n) = some n := by decide

/-- The character of a hexadecimal digit ends neither a payload nor a line, and is no space. -/
theorem hexChar_plain : ∀ n < 16, hexChar n ≠ quoteChar ∧ hexChar n ≠ ' ' ∧ '\n' ≠ hexChar n := by decide

/-- The character of a number below ten is a decimal digit with that value. -/
theorem hexChar_digit : ∀ n < 10, (hexChar n).isDigit = true ∧ (hexChar n).toNat - 48 = n ∧ hexChar n ≠ ' ' := by
  decide

/-- A byte is its two hexadecimal digits. -/
theorem byte_of_hex_digits (b : Byte) : BitVec.ofNat 8 (16 * (b.toNat / 16) + b.toNat % 16) = b := by
  rw [Nat.div_add_mod, BitVec.ofNat_toNat, BitVec.setWidth_eq]

/-- A payload in hexadecimal, up to its closing quote, reads back. -/
theorem hexPayload_hexText (d : List Byte) : hexPayload (hexText d ++ [quoteChar]) = some (d, []) := by
  induction d with
  | nil => rfl
  | cons b d ih =>
    have hb := b.isLt
    obtain ⟨not_quote, not_space, -⟩ := hexChar_plain (b.toNat / 16) (by omega)
    have high := hexVal_hexChar (b.toNat / 16) (by omega)
    have low := hexVal_hexChar (b.toNat % 16) (by omega)
    simp only [hexText, List.cons_append, hexPayload, if_neg not_quote, if_neg not_space, high, low, ih,
      byte_of_hex_digits]

theorem newline_not_mem_hexText (d : List Byte) : '\n' ∉ hexText d := by
  induction d with
  | nil => exact List.not_mem_nil
  | cons b d ih =>
    have hb := b.isLt
    obtain ⟨-, -, high⟩ := hexChar_plain (b.toNat / 16) (by omega)
    obtain ⟨-, -, low⟩ := hexChar_plain (b.toNat % 16) (by omega)
    simp [hexText, high, low, ih]

/-- A decimal operand of one digit, after a space, when no further digit follows. -/
theorem decimalOperand_hexChar (bound n : Nat) (cs : List Char) (h10 : n < 10) (hn : n < bound)
    (hcs : decimalDigits cs n = (n, cs)) :
    decimalOperand bound (' ' :: hexChar n :: cs) = some (n, cs) := by
  obtain ⟨digit, value, not_space⟩ := hexChar_digit n h10
  simp [decimalOperand, skipSpaces, not_space, digit, decimalDigits, value, hcs, hn]

/-- The statement that `asmText` writes for an `UPDATE`. -/
theorem statement_update_text (d : List Byte) :
    statement ['U', 'P', 'D', 'A', 'T', 'E'] ([' ', 'x', quoteChar] ++ hexText d ++ [quoteChar]) =
      some ([.update d], []) := by
  have operand : payloadOperand ([' ', 'x', quoteChar] ++ hexText d ++ [quoteChar]) = some (d, []) :=
    hexPayload_hexText d
  simp only [statement, withPayload, operand]
  rfl

/-- The statement that `asmText` writes for a `ROUND` with legal fields. -/
theorem statement_round_text (m rot : BitVec 2) (w : BitVec 3) (h : (Instr.round m rot w).wellFormed = true) :
    statement ['R', 'O', 'U', 'N', 'D']
        [' ', hexChar m.toNat, ',', ' ', hexChar rot.toNat, ',', ' ', hexChar w.toNat] =
      some ([.round m rot w], []) := by
  obtain ⟨hm, hrot⟩ : m ≠ 3 ∧ rot ≠ 3 := by simpa [Instr.wellFormed] using h
  have lm := legalField_lt m hm
  have lrot := legalField_lt rot hrot
  have lw := w.isLt
  have first := decimalOperand_hexChar 3 m.toNat [',', ' ', hexChar rot.toNat, ',', ' ', hexChar w.toNat]
    (by omega) lm rfl
  have second := decimalOperand_hexChar 3 rot.toNat [',', ' ', hexChar w.toNat] (by omega) lrot rfl
  have third := decimalOperand_hexChar 8 w.toNat [] (by omega) lw rfl
  simp [statement, roundOperands, first, second, third, afterComma, skipSpaces]

/-- A line that is a mnemonic and its operands, with nothing after them. -/
theorem parseLine_of_statement {line name operands : List Char} {is : List Instr}
    (hst : statement name operands = some (is, []))
    (hname : (skipSpaces line).takeWhile Char.isUpper = name)
    (hoperands : (skipSpaces line).dropWhile Char.isUpper = operands) (hne : name ≠ []) :
    parseLine line = some is := by
  simp only [parseLine, hname, hoperands, if_neg hne, hst]
  rfl

/-- A text without a line feed is one line. -/
theorem splitLines_of_no_newline (cs : List Char) (h : '\n' ∉ cs) : splitLines cs = [cs] := by
  induction cs with
  | nil => rfl
  | cons c cs ih =>
    obtain ⟨hc, hcs⟩ : '\n' ≠ c ∧ '\n' ∉ cs := by simpa using h
    rw [splitLines, ih hcs]
    exact if_neg hc.symm

/-- A text of one line that spells one instruction. -/
theorem assemble_of_line {line : List Char} {i : Instr} (hn : '\n' ∉ line) (hp : parseLine line = some [i]) :
    assemble line = some [i] := by
  rw [assemble, splitLines_of_no_newline line hn, assembleLines, hp]
  rfl

/-- Settles O7: a mnemonic without operands by evaluation, `UPDATE` and `ROUND` by reading their digits back. -/
theorem assembleOfText : Obligations.AssembleOfText := by
  intro i hw
  cases i with
  | reset | finalize | loadx | save | keysched | feedfwd => rfl
  | update d =>
    refine assemble_of_line ?_ (parseLine_of_statement (statement_update_text d) rfl rfl (List.cons_ne_nil _ _))
    have quote : '\n' ≠ quoteChar := by decide
    simp [asmText, newline_not_mem_hexText d, quote]
  | round m rot w =>
    refine assemble_of_line ?_ (parseLine_of_statement (statement_round_text m rot w hw) rfl rfl (List.cons_ne_nil _ _))
    have plain (n : Nat) (hn : n < 16) : '\n' ≠ hexChar n := (hexChar_plain n hn).2.2
    have lm := m.isLt
    have lrot := rot.isLt
    have lw := w.isLt
    simp [asmText, plain m.toNat (by omega), plain rot.toNat (by omega), plain w.toNat (by omega)]

end Sys2Proof.Machine
end

section
/-!
SUPPORT. The compression family (spec/40_compression.md): the words that `LOADX` reads (rule R101); each register of
`H` after a `ROUND` (rule R103); then the statements O20, O22, O21 and O27.
-/
namespace Sys2Proof.Machine

/-! ## `LOADX`, `SAVE` and `FEEDFWD` (rules R101, R102, R106) -/

theorem blockWords_getElem (b : Block) (j : Fin 8) :
    (blockWords b)[j] = le64dec ((b.toList.drop (8 * j.val)).take 8) := by
  rw [← wordAt_eq]
  simp [blockWords]

/-- `LOADX` reads the bytes of the block source, whatever the sequencer does next. -/
theorem State.loadX_x_getElem (s : State) (j : Fin 8) :
    s.loadX.x[j] = le64dec ((s.blockBytes.toList.drop (8 * j.val)).take 8) := by
  rw [State.loadX, State.advanceSeq_x, blockWords_getElem]

/-- Settles O20: the buffer and the payload chunk are the two block sources. -/
theorem loadxLoadsLittleEndianWords : Obligations.LoadxLoadsLittleEndianWords := by
  refine ⟨rfl, fun s => ⟨s.loadX, rfl, ?buffer, ?payload, seqPlusOne_advanceSeq _ _ rfl, ?frame⟩⟩
  case buffer =>
    intro hs j
    rw [State.loadX_x_getElem, State.blockBytes, hs, blockOf]
  case payload =>
    intro chunk hs j
    rw [State.loadX_x_getElem, State.blockBytes, hs, blockOf]
  case frame => simp [State.loadX]

/-- Settles O21: `seq + 1` leaves the copy of `H` and every other register alone. -/
theorem saveKeepsTheHashState : Obligations.SaveKeepsTheHashState := by
  refine ⟨rfl, fun s => ⟨s.saveH, rfl, ?_⟩⟩
  have copied : s.saveH.saved = s.h := State.advanceSeq_saved _
  rw [copied]
  exact ⟨rfl, rfl, rfl, seqPlusOne_advanceSeq _ _ rfl, by simp [State.saveH]⟩

/-- Settles O27: the three registers are those of the closed form of `FEEDFWD`. -/
theorem feedfwdCombines : Obligations.FeedfwdCombines :=
  ⟨rfl, fun s => ⟨s.feedForward, rfl, rfl, rfl, rfl, rfl, rfl⟩⟩

/-! ## `ROUND` (rule R103) -/

/-- The three roles are three registers (rule R83). -/
theorem roles_distinct : ∀ rot : Fin 3,
    (roles rot).ia ≠ (roles rot).ib ∧ (roles rot).ia ≠ (roles rot).ic ∧ (roles rot).ib ≠ (roles rot).ic := by decide

section RoundWords
variable (sbox : Vector Word 1024) (m rot : Fin 3) (word : Word) (h : Vector Word 3)

/-- The c-role after a round: no later line writes it. -/
theorem roundWords_ic : (roundWords sbox m rot word h)[(roles rot).ic] = h[(roles rot).ic] ^^^ word := by
  obtain ⟨-, hac, hbc⟩ := roles_distinct rot
  simp [roundWords, Vector.getElem_set, Fin.val_inj, hac, hbc]

/-- The a-role after a round: the lookups read the new c-role. -/
theorem roundWords_ia :
    (roundWords sbox m rot word h)[(roles rot).ia] =
      h[(roles rot).ia] - evenLookups sbox (roundWords sbox m rot word h)[(roles rot).ic] := by
  obtain ⟨hab, hac, -⟩ := roles_distinct rot
  rw [roundWords_ic]
  simp [roundWords, Vector.getElem_set, Fin.val_inj, hab.symm, hac.symm]

/-- The b-role after a round: the lookups read the new c-role, and the sum is multiplied. -/
theorem roundWords_ib :
    (roundWords sbox m rot word h)[(roles rot).ib] =
      (h[(roles rot).ib] + oddLookups sbox (roundWords sbox m rot word h)[(roles rot).ic]) * multiplier m := by
  obtain ⟨hab, -, hbc⟩ := roles_distinct rot
  rw [roundWords_ic]
  simp [roundWords, Vector.getElem_set, Fin.val_inj, hab, hbc.symm]

end RoundWords

/-- Settles O22: `H` is what a round makes of it, read at the three roles. -/
theorem roundMixesTheHashState : Obligations.RoundMixesTheHashState := by
  intro m rot w ia ib ic s hm hrot ha hb hc
  let m' : Fin 3 := ⟨m.toNat, legalField_lt m hm⟩
  let rot' : Fin 3 := ⟨rot.toNat, legalField_lt rot hrot⟩
  obtain rfl : ia = (roles rot').ia := Fin.ext ha
  obtain rfl : ib = (roles rot').ib := Fin.ext hb
  obtain rfl : ic = (roles rot').ic := Fin.ext hc
  refine ⟨rfl, s.roundStep m' rot' (wordIndex w), execRound_completes m rot w s hm hrot, ?_⟩
  rw [State.roundStep, State.advanceSeq_h]
  exact ⟨roundWords_ic .., roundWords_ia .., roundWords_ib .., seqPlusOne_advanceSeq _ _ rfl, by simp⟩

end Sys2Proof.Machine
end

section
/-!
SUPPORT. The key schedule family (spec/41_key_schedule.md): the sixteen lines of rule R121 as a list of assignments;
what each word is after its first and after its second assignment; each line is undone by a line of the same form; then
the statements O25 and O26.
-/
namespace Sys2Proof.Machine

/-! ## The sixteen lines (rule R121) -/

/-- One line of rule R121: word `i` combined by `op` with an operand that the other words give. -/
def assignWord (i : Fin 8) (op : Word → Word → Word) (operand : Vector Word 8 → Word) (x : Vector Word 8) :
    Vector Word 8 :=
  x.set i (op x[i] (operand x))

/-- The eight lines that assign each word for the first time (rule R121). -/
def firstLines : List (Vector Word 8 → Vector Word 8) :=
  [assignWord 0 (· - ·) fun x => x[7] ^^^ Config.k1,
   assignWord 1 (· ^^^ ·) fun x => x[0],
   assignWord 2 (· + ·) fun x => x[1],
   assignWord 3 (· - ·) fun x => x[2] ^^^ ((~~~x[1]) <<< 19),
   assignWord 4 (· ^^^ ·) fun x => x[3],
   assignWord 5 (· + ·) fun x => x[4],
   assignWord 6 (· - ·) fun x => x[5] ^^^ ((~~~x[4]) >>> 23),
   assignWord 7 (· ^^^ ·) fun x => x[6]]

/-- The eight lines that assign each word for the second time (rule R121). -/
def secondLines : List (Vector Word 8 → Vector Word 8) :=
  [assignWord 0 (· + ·) fun x => x[7],
   assignWord 1 (· - ·) fun x => x[0] ^^^ ((~~~x[7]) <<< 19),
   assignWord 2 (· ^^^ ·) fun x => x[1],
   assignWord 3 (· + ·) fun x => x[2],
   assignWord 4 (· - ·) fun x => x[3] ^^^ ((~~~x[2]) >>> 23),
   assignWord 5 (· ^^^ ·) fun x => x[4],
   assignWord 6 (· + ·) fun x => x[5],
   assignWord 7 (· - ·) fun x => x[6] ^^^ Config.k2]

/-- Lines performed one after another. -/
def runLines (lines : List (Vector Word 8 → Vector Word 8)) (x : Vector Word 8) : Vector Word 8 :=
  lines.foldl (fun x line => line x) x

theorem keySchedule_eq_runLines (x : Vector Word 8) :
    keySchedule x = runLines secondLines (runLines firstLines x) := rfl

/-! ## The words (rules R121, R122) -/

/-- A word is not written again among the first eight lines, so the later ones read its new value. -/
theorem firstLines_words {x y : Vector Word 8} (h : runLines firstLines x = y) :
    y[0] = x[0] - (x[7] ^^^ Config.k1) ∧
    y[1] = x[1] ^^^ y[0] ∧
    y[2] = x[2] + y[1] ∧
    y[3] = x[3] - (y[2] ^^^ ((~~~y[1]) <<< 19)) ∧
    y[4] = x[4] ^^^ y[3] ∧
    y[5] = x[5] + y[4] ∧
    y[6] = x[6] - (y[5] ^^^ ((~~~y[4]) >>> 23)) ∧
    y[7] = x[7] ^^^ y[6] := by
  subst h
  simp [runLines, firstLines, assignWord]

/-- Among the second eight lines only those of words 0 and 1 have an operand that is written later: word 7. -/
theorem secondLines_words {y z : Vector Word 8} (h : runLines secondLines y = z) :
    z[0] = y[0] + y[7] ∧
    z[1] = y[1] - (z[0] ^^^ ((~~~y[7]) <<< 19)) ∧
    z[2] = y[2] ^^^ z[1] ∧
    z[3] = y[3] + z[2] ∧
    z[4] = y[4] - (z[3] ^^^ ((~~~z[2]) >>> 23)) ∧
    z[5] = y[5] ^^^ z[4] ∧
    z[6] = y[6] + z[5] ∧
    z[7] = y[7] - (z[6] ^^^ Config.k2) := by
  subst h
  simp [runLines, secondLines, assignWord]

/-- Settles O25: `y` is what the first eight lines leave, and `seq + 1` does not touch the words. -/
theorem keyschedSixteenLines : Obligations.KeyschedSixteenLines := by
  refine ⟨rfl, fun s => ⟨s.keySched, rfl, ?words, seqPlusOne_advanceSeq _ _ rfl, by simp [State.keySched]⟩⟩
  have scheduled : runLines secondLines (runLines firstLines s.x) = s.keySched.x :=
    (State.advanceSeq_x { s with x := keySchedule s.x }).symm
  obtain ⟨h0, h1, h2, h3, h4, h5, h6, h7⟩ := firstLines_words (x := s.x) rfl
  exact ⟨_, _, _, _, _, _, _, _, h0, h1, h2, h3, h4, h5, h6, h7, secondLines_words scheduled⟩

/-! ## Each line can be undone (rule R124) -/

section AssignWord
variable (i : Fin 8) {op inv : Word → Word → Word} {operand : Vector Word 8 → Word}

/-- The line with the inverse operation undoes a line whose operand does not read the word it assigns. -/
theorem assignWord_leftInverse (hc : ∀ x v, operand (x.set i v) = operand x) (hop : ∀ a c, inv (op a c) c = a) :
    Function.LeftInverse (assignWord i inv operand) (assignWord i op operand) := by
  intro x
  simp [assignWord, hc, hop]

theorem assignWord_bijective (hc : ∀ x v, operand (x.set i v) = operand x) (hl : ∀ a c, inv (op a c) c = a)
    (hr : ∀ a c, op (inv a c) c = a) : Function.Bijective (assignWord i op operand) :=
  Function.bijective_iff_has_inverse.mpr
    ⟨assignWord i inv operand, assignWord_leftInverse i hc hl, assignWord_leftInverse i hc hr⟩

theorem assignWord_add_bijective (hc : ∀ x v, operand (x.set i v) = operand x) :
    Function.Bijective (assignWord i (· + ·) operand) :=
  assignWord_bijective i hc add_sub_cancel_right sub_add_cancel

theorem assignWord_sub_bijective (hc : ∀ x v, operand (x.set i v) = operand x) :
    Function.Bijective (assignWord i (· - ·) operand) :=
  assignWord_bijective i hc sub_add_cancel add_sub_cancel_right

theorem assignWord_xor_bijective (hc : ∀ x v, operand (x.set i v) = operand x) :
    Function.Bijective (assignWord i (· ^^^ ·) operand) := by
  have cancel (a c : Word) : a ^^^ c ^^^ c = a := by simp
  exact assignWord_bijective i hc cancel cancel

end AssignWord

theorem firstLines_bijective : ∀ line ∈ firstLines, Function.Bijective line := by
  simp [firstLines, assignWord_add_bijective, assignWord_sub_bijective, assignWord_xor_bijective]

theorem secondLines_bijective : ∀ line ∈ secondLines, Function.Bijective line := by
  simp [secondLines, assignWord_add_bijective, assignWord_sub_bijective, assignWord_xor_bijective]

/-- Lines that can each be undone can be undone together. -/
theorem runLines_bijective (lines : List (Vector Word 8 → Vector Word 8))
    (h : ∀ line ∈ lines, Function.Bijective line) : Function.Bijective (runLines lines) := by
  induction lines with
  | nil => exact Function.bijective_id
  | cons line lines ih =>
    obtain ⟨hline, hlines⟩ := List.forall_mem_cons.mp h
    exact (ih hlines).comp hline

/-- Settles O26: the schedule is its sixteen lines one after another, and no line's operand reads the word that the
line assigns. -/
theorem keyScheduleIsBijective : Obligations.KeyScheduleIsBijective :=
  (runLines_bijective secondLines secondLines_bijective).comp (runLines_bijective firstLines firstLines_bijective)

end Sys2Proof.Machine
end

section
/-!
SUPPORT. The streaming family (spec/42_streaming_update.md): the three counts of `UPDATE` and the bytes of a payload
that completes no block (rules R131 to R136); how the closed forms of consecutive updates compose, and the run of a list
of updates (rules R137, R139); then the statements O32, O38, O41, O33, O35, O36, O40 and O37.
-/
namespace Sys2Proof.Machine

/-! ## Counts and stores of one `UPDATE` (rules R131 to R136) -/

/-- Top-up, whole chunks and leftover divide the payload (rule R135). -/
theorem phase_counts (fill : BitVec 6) (n : Nat) :
    topUpCount fill n + 64 * chunkCount fill n + leftoverCount fill n = n := by
  have hle := topUpCount_le fill n
  simp only [chunkCount, leftoverCount]
  omega

/-- `UPDATE` of nothing (rule R136). -/
theorem State.absorb_nil (s : State) : s.absorb [] = s := by
  rw [State.absorb_of_short [] s s.fill.isLt]
  ext1 <;> simp [writeBytes]

/-- The bytes of the payload that stand in the buffer when no block is completed (rules R131, R133). -/
theorem State.absorb_short_getElem? (d : List Byte) (s : State) (h : s.fill.toNat + d.length < 64) (k : Nat)
    (hk : k < d.length) : (s.absorb d).buf.toList[s.fill.toNat + k]? = some d[k] := by
  have stored : s.fill.toNat ≤ s.fill.toNat + k ∧ s.fill.toNat + k < s.fill.toNat + d.length := by omega
  rw [State.absorb_of_short d s h, List.getElem?_eq_getElem (by simp; omega), Vector.getElem_toList,
    writeBytes_getElem _ _ _ _ (by omega), dif_pos stored]
  simp

/-! ## Closed forms one after another (rules R137, R139) -/

/-- The completed blocks lie within the waiting tail and the payload. -/
theorem State.blocks_le (d : List Byte) (s : State) :
    64 * ((s.fill.toNat + d.length) / 64) ≤ (s.tail ++ d).length := by
  rw [List.length_append, State.tail_length]
  omega

namespace State.Absorbed
variable {d e : List Byte} {s t u : State}

/-- Below MAXLEN the counter does not wrap (rule R24). -/
theorem len_toNat (a : State.Absorbed d s t) (hl : s.len.toNat + d.length ≤ Config.maxLen) :
    t.len.toNat = s.len.toNat + d.length := by
  have hmax : Config.maxLen < 2 ^ 64 := by decide
  rw [a.len, BitVec.toNat_add, BitVec.toNat_ofNat]
  omega

/-- What waits after `d`, with `e` behind it, is what remains of the whole string after the blocks completed so far. -/
theorem tail_append (a : State.Absorbed d s t) :
    t.tail ++ e = (s.tail ++ (d ++ e)).drop (64 * ((s.fill.toNat + d.length) / 64)) := by
  rw [a.tail, ← List.append_assoc s.tail, List.drop_append_of_le_length (State.blocks_le d s)]

/-- The closed form of `d` and then that of `e` make the closed form of `d ++ e`: the blocks that the first completes
are the first blocks of the whole string, and the second completes those that follow. -/
theorem trans (a : State.Absorbed d s t) (b : State.Absorbed e t u) (hb : t.sbox = s.sbox) :
    State.Absorbed (d ++ e) s u := by
  have blocks : (s.fill.toNat + (d ++ e).length) / 64 =
      (s.fill.toNat + d.length) / 64 + (t.fill.toNat + e.length) / 64 := by
    rw [a.fill_toNat, List.length_append]
    omega
  have first : t.h = hashBlocks s.sbox s.h ((s.fill.toNat + d.length) / 64) (s.tail ++ (d ++ e)) := by
    rw [a.h, ← List.append_assoc, hashBlocks_append _ _ _ _ _ (State.blocks_le d s)]
  refine ⟨?_, ?_, ?_⟩
  · rw [b.h, hb, first, a.tail_append, blocks, hashBlocks_add]
  · rw [b.tail, a.tail_append, List.drop_drop, blocks, Nat.mul_add]
  · rw [b.len, a.len, BitVec.add_assoc, ← BitVec.ofNat_add, List.length_append]

end State.Absorbed

/-! ## Runs of updates (rules R137, R139) -/

/-- `t` is `s` after updates that carry `m` between them, in however many chunks: the closed form of `m`, and the fields
that `FINALIZE` reads or extends beside it. -/
structure State.UpdatedBy (m : List Byte) (s t : State) : Prop where
  /-- `H`, the waiting tail and `len` are those of one `UPDATE` of `m`. -/
  absorbed : State.Absorbed m s t
  done : t.done = s.done
  sbox : t.sbox = s.sbox
  responses : t.responses = s.responses

/-- One `UPDATE` is such a run. -/
theorem State.updatedBy_absorb (d : List Byte) (s : State) : State.UpdatedBy d s (s.absorb d) :=
  ⟨State.absorbed d s, by simp, by simp, by simp⟩

namespace State.UpdatedBy
variable {d e m : List Byte} {s t u : State}

/-- No update at all. -/
theorem refl (s : State) : State.UpdatedBy [] s s := by
  simpa only [State.absorb_nil] using State.updatedBy_absorb [] s

/-- A run after a run carries the bytes of both. -/
theorem trans (a : State.UpdatedBy d s t) (b : State.UpdatedBy e t u) : State.UpdatedBy (d ++ e) s u :=
  ⟨a.absorbed.trans b.absorbed a.sbox, b.done.trans a.done, b.sbox.trans a.sbox, b.responses.trans a.responses⟩

/-- CHUNKS ARE INVISIBLE: two runs that carry the same bytes agree on everything that is live (rules R37, R137). -/
theorem liveEq (a : State.UpdatedBy m s t) (b : State.UpdatedBy m s u) : t.LiveEq u := by
  refine ⟨?_, ?_, ?_, fun _ => ⟨BitVec.eq_of_toNat_eq ?_, ?_, ?_⟩⟩
  · rw [a.absorbed.h, b.absorbed.h]
  · rw [a.done, b.done]
  · rw [a.sbox, b.sbox]
  · rw [a.absorbed.fill_toNat, b.absorbed.fill_toNat]
  · rw [a.absorbed.len, b.absorbed.len]
  · rw [a.absorbed.tail, b.absorbed.tail]

end State.UpdatedBy

/-- A list of updates within MAXLEN completes, and carries the concatenation of its chunks. -/
theorem execAll_updates (ds : List (List Byte)) (s : State) (hd : s.done = false)
    (hl : s.len.toNat + ds.flatten.length ≤ Config.maxLen) :
    ∃ t, execAll (ds.map Instr.update) s = .next t ∧ State.UpdatedBy ds.flatten s t := by
  induction ds generalizing s with
  | nil => exact ⟨s, rfl, State.UpdatedBy.refl s⟩
  | cons d ds ih =>
    rw [List.flatten_cons, List.length_append] at hl
    have first : exec (.update d) s = .next (s.absorb d) := execUpdate_completes d s hd (by omega)
    have hlen := (State.absorbed d s).len_toNat (by omega)
    obtain ⟨t, run, rest⟩ := ih (s.absorb d) (by simpa using hd) (by omega)
    exact ⟨t, (execAll_cons_of_next _ first).trans run, (State.updatedBy_absorb d s).trans rest⟩

/-- A list of updates and the one update of its concatenation lead to states that no command can tell apart (rule
R137). -/
theorem execAll_updates_liveEq (ds : List (List Byte)) (s : State) (hd : s.done = false)
    (hl : s.len.toNat + ds.flatten.length ≤ Config.maxLen) :
    ∃ t, execAll (ds.map Instr.update) s = .next t ∧ exec (.update ds.flatten) s = .next (s.absorb ds.flatten) ∧
      t.done = false ∧ t.responses = s.responses ∧ t.LiveEq (s.absorb ds.flatten) := by
  obtain ⟨t, run, carried⟩ := execAll_updates ds s hd hl
  exact ⟨t, run, execUpdate_completes _ s hd hl, carried.done.trans hd, carried.responses,
    carried.liveEq (State.updatedBy_absorb _ s)⟩

/-- The sequence of `ABSORB`s of a payload is its division into chunks of one byte (rules R89, R138). -/
theorem flatMap_absorbCommand (d : List Byte) : d.flatMap absorbCommand = (d.map ([·])).map Instr.update := by
  rw [List.map_map, List.map_eq_flatMap]
  rfl

/-- The chunks of one byte make the payload. -/
theorem flatten_bytes (d : List Byte) : (d.map ([·])).flatten = d := by
  rw [← List.flatMap_def, List.flatMap_singleton']

/-! ## The statements -/

/-- Settles O32, by the closed form of the three phases. -/
theorem updateClosedForm : Obligations.UpdateClosedForm := by
  intro d s hd hl
  have closed := State.absorbed d s
  exact ⟨s.absorb d, execUpdate_completes d s hd hl, closed.h, closed.fill_toNat, closed.len_toNat hl, closed.tail,
    by simpa using hd⟩

/-- Settles O38: the two runs end in states that differ in dead parts only, so `FINALIZE` pads and compresses alike. -/
theorem chunkInvariance : Obligations.ChunkInvariance := by
  intro ds s hd hl
  obtain ⟨t, run, one, hdt, ht, live⟩ := execAll_updates_liveEq ds s hd hl
  have hpad := live.padAndCompress_h hdt
  obtain ⟨hh, hdone, -, absorbing⟩ := live
  obtain ⟨hf, hlen, htail⟩ := absorbing hdt
  refine ⟨t, s.absorb ds.flatten, _, _, run, one, hh, hf, hlen, htail, execFinalize_completes t hdt,
    execFinalize_completes _ (hdone ▸ hdt), digestBytes t.padAndCompress.h, ?_, ?_⟩
  · simp [ht]
  · simp [hpad]

/-- Settles O41: after `RESET` nothing waits and nothing is counted, so the closed form is that of the message alone. -/
theorem updatesAbsorbTheMessage : Obligations.UpdatesAbsorbTheMessage := by
  intro ds s hl
  have empty : s.clearMessage.tail ++ ds.flatten = ds.flatten := by
    rw [State.tail_of_empty _ rfl, List.nil_append]
  have counted : s.clearMessage.fill.toNat + ds.flatten.length = ds.flatten.length := Nat.zero_add _
  have within : s.clearMessage.len.toNat + ds.flatten.length ≤ Config.maxLen := by
    simpa [Config.maxLen] using hl
  obtain ⟨t, run, closed, hdone, -, -⟩ := execAll_updates ds s.clearMessage rfl within
  have hlen := closed.len_toNat within
  have hfill := closed.fill_toNat
  obtain ⟨hh, htail, -⟩ := closed
  rw [counted] at hfill
  rw [counted, empty] at hh htail
  exact ⟨t, (execAll_cons_of_next _ rfl).trans run, hlen.trans (Nat.zero_add _), hfill, hh, htail, hdone⟩

/-- Settles O33, by the division of the payload and the counter of the closed form. -/
theorem updateCountsEveryByteOnce : Obligations.UpdateCountsEveryByteOnce :=
  fun d s hd hl => ⟨phase_counts s.fill d.length, s.absorb d, execUpdate_completes d s hd hl,
    (State.absorbed d s).len_toNat hl⟩

/-- Settles O35: no block is completed, so `fill` does not wrap and the stored bytes stay. -/
theorem shortUpdateAppendsAtFill : Obligations.ShortUpdateAppendsAtFill := by
  intro d s hd hl h
  refine ⟨s.absorb d, execUpdate_completes d s hd hl, ?_, State.absorb_short_getElem? d s h⟩
  rw [(State.absorbed d s).fill_toNat, Nat.mod_eq_of_lt h]

/-- Settles O36: the guards let an empty payload through, and it changes nothing. -/
theorem emptyUpdateIsIdentity : Obligations.EmptyUpdateIsIdentity :=
  fun s hd hl => (execUpdate_completes [] s hd hl).trans (congrArg _ s.absorb_nil)

/-- Settles O40: one-byte updates are one way of dividing the payload into chunks. -/
theorem updateIsByteSerial : Obligations.UpdateIsByteSerial := by
  intro d s hd hl
  obtain ⟨t, run, one, hdt, -, hh, -, -, absorbing⟩ :=
    execAll_updates_liveEq (d.map ([·])) s hd (by rwa [flatten_bytes])
  rw [← flatMap_absorbCommand] at run
  rw [flatten_bytes] at one hh absorbing
  obtain ⟨hf, hlen, htail⟩ := absorbing hdt
  exact ⟨t, s.absorb d, run, one, hh, hf, hlen, htail⟩

/-- Settles O37, by the two guards in their order. -/
theorem updateGuards : Obligations.UpdateGuards :=
  ⟨execUpdate_afterFinalize, execUpdate_lengthOverflow⟩

end Sys2Proof.Machine
end

section
/-!
SUPPORT. The finalisation family (spec/43_finalize_reset.md): the padding written out, its length, and the blocks of a
padded message (rules R151, R153, R154, R158); the digest that `FINALIZE` reaches once a whole message has been absorbed
(rule R162); the state that `RESET` leaves against a newly created engine (rule R160); then the statements O46, O42,
O55, O18, O43 and O45.
-/
namespace Sys2Proof.Machine

/-! ## The padded message (rules R151, R153, R154, R158) -/

/-- The padding that fills the current block (rule R153). -/
theorem padding_of_lt {f : Nat} (hf : f < 56) (bits : Word) :
    padding f bits = [0x01#8] ++ List.replicate (55 - f) 0 ++ le64 bits := by
  rw [padding, padZeros, if_pos hf]
  rfl

/-- The padding that runs into one more block (rule R154). -/
theorem padding_of_ge {f : Nat} (hf : 56 ≤ f) (bits : Word) :
    padding f bits = [0x01#8] ++ List.replicate (119 - f) 0 ++ le64 bits := by
  rw [padding, padZeros, if_neg (Nat.not_lt.mpr hf)]
  rfl

/-- `pad(m)` has the whole blocks of `m`, and one or two more (rule R158). -/
theorem padded_length (m : List Byte) :
    (padded m).length = 64 * (m.length / 64 + (if m.length % 64 < 56 then 1 else 2)) := by
  have last := padding_fills (m.length % 64) (Nat.mod_lt _ (by decide)) (BitVec.ofNat 64 (8 * m.length))
  rw [padded, List.length_append]
  split_ifs at last ⊢ <;> omega

/-- Compressing the blocks of `pad(m)` is compressing the whole blocks of `m`, then the rest of `m` with its padding. -/
theorem tigerWords_eq (sbox : Vector Word 1024) (m : List Byte) :
    tigerWords sbox m =
      hashBlocks sbox (hashBlocks sbox Config.iv (m.length / 64) m) (if m.length % 64 < 56 then 1 else 2)
        (m.drop (64 * (m.length / 64)) ++ padding (m.length % 64) (BitVec.ofNat 64 (8 * m.length))) := by
  have whole : 64 * (m.length / 64) ≤ m.length := Nat.mul_div_le _ _
  rw [tigerWords, padded_length, Nat.mul_div_cancel_left _ (by decide), hashBlocks_add, padded,
    hashBlocks_append _ _ _ _ _ whole, List.drop_append_of_le_length whole]

/-! ## From `RESET` to the digest (rules R159, R160, R162) -/

/-- After `RESET` nothing waits and nothing is counted, so what follows the whole blocks of the message is padded as
`pad(m)` pads it. -/
theorem State.UpdatedBy.padAndCompress_h_of_reset {m : List Byte} {s t : State}
    (a : State.UpdatedBy m s.clearMessage t) : t.padAndCompress.h = tigerWords s.sbox m := by
  obtain ⟨closed, -, hsbox, -⟩ := a
  have hfill := closed.fill_toNat
  obtain ⟨hh, htail, hlen⟩ := closed
  have empty : s.clearMessage.tail = [] := State.tail_of_empty _ rfl
  have none_filled : s.clearMessage.fill.toNat = 0 := rfl
  have bits : t.bitLength = BitVec.ofNat 64 (8 * m.length) := by
    rw [State.bitLength, hlen, Nat.mul_comm, BitVec.ofNat_mul]
    exact congrArg (· * 8) (BitVec.zero_add _)
  rw [none_filled, Nat.zero_add] at hfill hh htail
  rw [empty, List.nil_append] at hh htail
  rw [State.padAndCompress_h, hsbox, hfill, hh, htail, bits, tigerWords_eq]
  rfl

/-- `RESET` puts every live field but `SBOX` at its value in a newly created engine (rule R160). -/
theorem State.clearMessage_liveEq_reset (s : State) : s.clearMessage.LiveEq { State.reset with sbox := s.sbox } :=
  ⟨rfl, rfl, rfl, fun _ => ⟨rfl, rfl, by rw [State.tail_of_empty _ rfl, State.tail_of_empty _ rfl]⟩⟩

/-! ## The statements -/

/-- Settles O46: the updates complete and carry the message, and `FINALIZE` then reaches its digest. -/
theorem wholeMessageDigest : Obligations.WholeMessageDigest := by
  intro ds s hl
  have within : s.clearMessage.len.toNat + ds.flatten.length ≤ Config.maxLen := by
    simpa [Config.maxLen] using hl
  obtain ⟨t, run, carried⟩ := execAll_updates ds s.clearMessage rfl within
  have digest := carried.padAndCompress_h_of_reset
  refine ⟨t.padAndCompress.respond.setDone.forgetMessage, ?_, ?_, by simpa using digest⟩
  · rw [execAll_cons_of_next _ (exec_reset s), execAll_append_of_next _ run, execAll_singleton]
    exact execFinalize_completes t carried.done
  · simp [digest, tiger, carried.responses]

/-- Settles O42: the padding and its compressions, with the two forms of the padding written out. -/
theorem finalizePadsAndAnswers : Obligations.FinalizePadsAndAnswers := by
  refine ⟨rfl, fun s hd => ⟨_, execFinalize_completes s hd, fun hf => ?_, fun hf => ?_, ?_⟩⟩
  · have one := State.padAndCompress_h s
    rw [if_pos hf, padding_of_lt hf] at one
    simpa [State.bitLength] using one
  · have two := State.padAndCompress_h s
    rw [if_neg (Nat.not_lt.mpr hf), padding_of_ge hf] at two
    simpa [State.bitLength] using two
  · simp [digestBytes]

/-- Settles O55: the state that `RESET` leaves and a newly created engine differ in dead parts only. -/
theorem resetEquivalence : Obligations.ResetEquivalence :=
  fun is s hc => ⟨s.clearMessage, rfl, deadStateIsInvisible is _ _ hc s.clearMessage_liveEq_reset⟩

/-- Settles O18, by the fields that `State.clearMessage` writes. -/
theorem resetRestoresTheInitialCondition : Obligations.ResetRestoresTheInitialCondition :=
  ⟨rfl, fun _ => rfl⟩

/-- Settles O43, by the guard of `FINALIZE`. -/
theorem finalizeRefusedAfterFinalize : Obligations.FinalizeRefusedAfterFinalize :=
  execFinalize_afterFinalize

/-- Settles O45: with fewer zeros the length field ends before the block that `padZeros` fills. -/
theorem paddingIsMinimal : Obligations.PaddingIsMinimal := by
  refine fun m => ⟨padded_length m, fun z hz => ?_⟩
  rw [padZeros] at hz
  split at hz <;> omega

end Sys2Proof.Machine
end

section
/-!
SUPPORT. The exceptions family (spec/60_exceptions.md): when a meaning is refused, as an equivalence; no control word
that decodes is refused; when a step that fetched a control word or a command is refused (rule R171); then the
statement O15.
-/
namespace Sys2Proof.Machine

/-! ## Meanings that are refused (rule R171) -/

/-- The refusal named by rule R171 is the only one a meaning can give. -/
theorem exec_refused_iff (i : Instr) (s : State) (r : Refusal) : exec i s = .refused r ↔ refusalFor s i = some r := by
  refine ⟨fun h => ?_, exec_of_refusalFor_some i s r⟩
  cases hr : refusalFor s i with
  | none =>
    obtain ⟨t, ht⟩ := exec_of_refusalFor_none i s hr
    cases h.symm.trans ht
  | some r' => cases h.symm.trans (exec_of_refusalFor_some i s r' hr); rfl

/-- No refusal looks at the stream. -/
@[simp] theorem refusalFor_input (s : State) (rest : List Byte) (i : Instr) :
    refusalFor { s with input := rest } i = refusalFor s i := rfl

/-- What a control word decodes to is never refused: the decoder has checked the fields of `ROUND` (rules R85, R171). -/
theorem refusalFor_of_decodeUop {u : BitVec 10} {i : Instr} (s : State) (h : decodeUop u = .ok i) :
    refusalFor s i = none := by
  obtain ⟨wellFormed, encoded⟩ := encodeOfDecodedUop u i h
  cases i with
  | loadx | save | keysched | feedfwd => rfl
  | round m rot w =>
    obtain ⟨hm, hr⟩ : m ≠ 3 ∧ rot ≠ 3 := by simpa [Instr.wellFormed] using wellFormed
    exact if_neg (not_or.mpr ⟨hm, hr⟩)
  | reset | update _ | finalize => cases encoded

/-! ## Steps that are refused (rule R171) -/

/-- A step that fetched a control word is refused when the word is reserved, and only then (rule R85). -/
theorem step_refused_iff_of_fetchUop {s s' : State} {u : BitVec 10} (hf : fetch s = fetchUop u s') (r : Refusal) :
    step s = .refused r ↔ decodeUop u = .error .reservedUop ∧ r = .reservedUop := by
  obtain ⟨i, legal, hu⟩ | ⟨e, reserved, hu⟩ := fetchUop_cases u s'
  · rw [step_of_fetch_run s s' i (hf.trans hu), exec_refused_iff, refusalFor_of_decodeUop s' legal, legal]
    simp
  · obtain rfl := decodeUop_error reserved
    rw [step_of_fetch_reject s _ (hf.trans hu), reserved]
    simp [refusalOf, eq_comm]

/-- The step of an idle engine is refused when its stream does not decode, or when the command that it decodes to is
refused in this state (rules R79, R80, R195); with an exhausted stream it waits (rule R198). -/
theorem step_refused_iff_of_idle {s : State} (idle : s.Idle) (r : Refusal) :
    step s = .refused r ↔
      (s.input ≠ [] ∧ ∃ e, decodeCommand s.input = .error e ∧ r = refusalOf e) ∨
      (s.input ≠ [] ∧ ∃ i rest, decodeCommand s.input = .ok (i, rest) ∧ refusalFor s i = some r) := by
  obtain ⟨exhausted, hc⟩ | ⟨i, rest, decoded, hne, -⟩ | ⟨e, rejected, hne, -⟩ := fetchCommand_cases s
  · have waits : step s = .next s := by rw [step, fetch_of_idle idle, hc]
    simp [waits, exhausted]
  · rw [step_of_decode_ok idle decoded, exec_refused_iff]
    simp [decoded, hne]
  · rw [step_of_decode_error idle hne rejected]
    simp [rejected, hne, eq_comm]

/-! ## The statement -/

/-- Settles O15, by what `fetch` finds: a hardware reset completes, and no word of the micro-program is reserved. -/
theorem stepRefusesExactlyWhen : Obligations.StepRefusesExactlyWhen := by
  intro s r
  obtain ⟨hr, hf⟩ | ⟨hr, u, hu, hf⟩ | ⟨hr, hu, k, hk, hf⟩ | ⟨hr, hu, hk, -⟩ := fetch_cases s
  · have resets : step s = .next s.hardwareReset := by rw [step, hf]
    simp [resets, State.Idle, hr]
  · rw [step_refused_iff_of_fetchUop hf]
    simp [State.Idle, hr, hu]
  · rw [step_refused_iff_of_fetchUop hf, decodeUop_microProgram]
    simp [State.Idle, hu, hk]
  · have idle : s.Idle := ⟨hr, hu, hk⟩
    rw [step_refused_iff_of_idle idle]
    simp [idle, hu]

end Sys2Proof.Machine
end

section
/-!
SUPPORT. The reset and hazards family (spec/70_reset_and_hazards.md): the step of an engine with the reset line asserted
(rules R190, R191) and the step of an idle engine with an exhausted stream (rule R198); then the statements O19 and O11.
-/
namespace Sys2Proof.Machine

/-- The reset line comes before the test port, the sequencer and the stream (rules R190, R191; log entry 24). -/
theorem fetch_of_resetLine {s : State} (asserted : s.resetLine = true) : fetch s = .hardwareReset := by
  rw [fetch, if_pos asserted]

/-- With the reset line asserted the step is a hardware reset (rules R190, R191). -/
theorem step_of_resetLine {s : State} (asserted : s.resetLine = true) : step s = .next s.hardwareReset := by
  rw [step, fetch_of_resetLine asserted]

/-- An exhausted stream is no error (rule R198). -/
theorem fetchCommand_of_exhausted {s : State} (exhausted : s.input = []) : fetchCommand s = .wait := by
  rw [fetchCommand, exhausted]

/-- After a hardware reset the engine takes its next command from the stream (rules R190, R191). -/
theorem State.hardwareReset_idle (s : State) : s.hardwareReset.Idle :=
  ⟨s.hardwareReset_resetLine, s.hardwareReset_testWord, s.hardwareReset_seq⟩

/-- Settles O19: the step is a hardware reset whatever else the state holds, and the values are those of
`State.hardwareReset`, field by field. -/
theorem hardwareResetAbandons : Obligations.HardwareResetAbandons := by
  intro s asserted
  exact ⟨s.hardwareReset, step_of_resetLine asserted, s.hardwareReset_h, s.hardwareReset_fill, s.hardwareReset_len,
    s.hardwareReset_done, s.hardwareReset_seq, s.hardwareReset_sbox, s.hardwareReset_idle, s.hardwareReset_input,
    s.hardwareReset_responses⟩

/-- Settles O11: an idle engine looks at its stream alone, and with nothing sent it waits. -/
theorem stepWaitsForACommand : Obligations.StepWaitsForACommand := by
  intro s idle exhausted
  rw [step, fetch_of_idle idle, fetchCommand_of_exhausted exhausted]

end Sys2Proof.Machine
end
